-- ==== Sys2Proof/Word.lean ====
section
/-! DEFINITION. Word.lean: the widths of the block's values (00_scope R14, 30_encoding R67). -/

namespace Sys2Proof

/-- Eight bits: every register, operand and emitted byte but the ones below (30_encoding R67, decision D6). -/
abbrev Byte := BitVec 8

/-- Four bits: one half of a byte (00_scope R16). -/
abbrev Nibble := BitVec 4

/-- Seven bits: an address of the two-wire bus (20_memory R37). -/
abbrev BusAddress := BitVec 7

end Sys2Proof
end

