-- ==== Sys2Proof/Config.lean ====
section
/-! DEFINITION. Config.lean: the open parameters of one block (00_scope R12, R13) and the values the spec leaves
without any value at power-on (10_state R33, R34). The values the parameters have by default are
`Sys2Proof.Machine.standardConfig`, the parameters the source itself states are constants of Machine/Params.lean. -/

namespace Sys2Proof

/-- The parameters of 00_scope R12 that the source document does not fix: the seven command codes and the flag masks
(decision D9), the two enable-pulse holds (decision D8) and `CGRAM_WRITE_ROWS` (decision D13). -/
structure Config where
  /-- `CMD_CLEAR_DISPLAY`. -/
  cmdClearDisplay : Byte
  /-- `CMD_RETURN_HOME`. -/
  cmdReturnHome : Byte
  /-- `CMD_ENTRY_MODE_SET`. -/
  cmdEntryModeSet : Byte
  /-- `CMD_DISPLAY_CONTROL`. -/
  cmdDisplayControl : Byte
  /-- `CMD_CURSOR_SHIFT`. -/
  cmdCursorShift : Byte
  /-- `CMD_FUNCTION_SET`. -/
  cmdFunctionSet : Byte
  /-- `CMD_SET_DDRAM_ADDR`. -/
  cmdSetDdramAddr : Byte
  /-- `FLAG_ENTRY_LEFT` of `modeFlags`. -/
  flagEntryLeft : Byte
  /-- `FLAG_SHIFT_INCREMENT` of `modeFlags`. -/
  flagShiftIncrement : Byte
  /-- `FLAG_DISPLAY_ON` of `controlFlags`. -/
  flagDisplayOn : Byte
  /-- `FLAG_CURSOR_ON` of `controlFlags`. -/
  flagCursorOn : Byte
  /-- `FLAG_BLINK_ON` of `controlFlags`. -/
  flagBlinkOn : Byte
  /-- `FLAG_DISPLAY_MOVE` of the cursor-shift command. -/
  flagDisplayMove : Byte
  /-- `FLAG_MOVE_RIGHT` of the cursor-shift command. -/
  flagMoveRight : Byte
  /-- `FLAG_8BIT` of the function-set command. -/
  flag8Bit : Byte
  /-- `FLAG_2LINE` of `functionFlags`. -/
  flag2Line : Byte
  /-- `FLAG_5x10` of `functionFlags`. -/
  flag5x10 : Byte
  /-- `T_EN_HIGH` in nanoseconds, at least 450. -/
  tEnHigh : Nat
  /-- `T_EN_LOW` in nanoseconds, at least 37 000. -/
  tEnLow : Nat
  /-- `CGRAM_WRITE_ROWS`: whether `CREATE_CHAR` sends its eight rows. -/
  cgramWriteRows : Bool
deriving DecidableEq, Repr

/-- 10_state R33: `functionFlags` holds no value before `CONFIGURE`, and a model must not pick zero. DESIGN CHOICE,
log entry 2: a value nothing in Lean can evaluate; no operation the host can present reads it. -/
opaque Config.powerOnFunctionFlags : Byte

/-- 10_state R33, log entry 2: what `controlFlags` holds at power-on. DESIGN CHOICE. -/
opaque Config.powerOnControlFlags : Byte

/-- 10_state R33, log entry 2: what `modeFlags` holds at power-on. DESIGN CHOICE. -/
opaque Config.powerOnModeFlags : Byte

/-- 10_state R33, log entry 2: what `lineCount` holds at power-on. DESIGN CHOICE. -/
opaque Config.powerOnLineCount : Byte

/-- 10_state R33, log entry 2: what `columnCount` holds at power-on. DESIGN CHOICE. -/
opaque Config.powerOnColumnCount : Byte

/-- 10_state R34, 93 entry U13, log entry 2: what `backlightState` holds at power-on. DESIGN CHOICE. -/
opaque Config.powerOnBacklight : Bool

/-- 10_state R26, 93 entry U14, log entry 3: the expander's output lines before the first bus write, "any value".
DESIGN CHOICE. -/
opaque Config.powerOnXlatch : Byte

end Sys2Proof
end

