-- ==== Sys2Proof/Machine/Params.lean ====
section
/-! DEFINITION. Machine/Params.lean: the parameters of 00_scope R12. Those the source states are constants; the open
ones are the fields of `Config`, with their default values in `standardConfig` and the constraints of R13 in
`configLawful`. -/

namespace Sys2Proof.Machine

/-- `DEVICE_ADDRESS`: the one bus address the block writes to (20_memory R37, decision D21). -/
def deviceAddress : BusAddress := 0x27#7

/-- `XB_RS`, bit 0 of the expander byte (30_encoding R57). -/
def xbRs : Byte := 0x01#8

/-- `XB_EN`, bit 2 of the expander byte (R57). -/
def xbEn : Byte := 0x04#8

/-- `XB_BL`, bit 3 of the expander byte (R57). -/
def xbBl : Byte := 0x08#8

/-- `XB_DATA`, bits 7:4 of the expander byte (R57). -/
def xbData : Byte := 0xF0#8

/-- `CMD_SET_CGRAM_ADDR`, the one command code the source gives (30_encoding R59). -/
def cmdSetCgramAddr : Byte := 0x40#8

/-- `INIT_NIBBLE_8BIT` (41_configure_init R82). -/
def initNibble8BitByte : Byte := 0x30#8

/-- `INIT_NIBBLE_4BIT` (R83). -/
def initNibble4BitByte : Byte := 0x20#8

/-- `ROW_OFFSET`: the DDRAM offsets of rows 0 to 3; there is no other row (42_display_commands R94). -/
def rowOffset : Nat → Option Byte
  | 0 => some 0x00#8
  | 1 => some 0x40#8
  | 2 => some 0x14#8
  | 3 => some 0x54#8
  | _ => none

/-- `T_XW`, 2 ms in nanoseconds (40_transport R73). -/
def tXw : Nat := 2000000

/-- `T_POWERUP`, 50 ms (41_configure_init R80). -/
def tPowerUp : Nat := 50000000

/-- `T_RESET_SETTLE`, 1000 ms (R81). -/
def tResetSettle : Nat := 1000000000

/-- `T_INIT_1`, 4.5 ms (R82). -/
def tInit1 : Nat := 4500000

/-- `T_INIT_2`, 4.5 ms (R82). -/
def tInit2 : Nat := 4500000

/-- `T_INIT_3`, 150 µs (R82). -/
def tInit3 : Nat := 150000

/-- `T_CLEAR_HOME`, 2 ms (R86, R88). -/
def tClearHome : Nat := 2000000

/-- The defaults of 00_scope R12. PRESUMED, log entry 5: the codes and masks are the HD44780 family's (93 part 2, K1 to
K7). DESIGN CHOICE of the spec, log entries 6 and 14: the two holds (D8) and `CGRAM_WRITE_ROWS` (D13). -/
def standardConfig : Config where
  cmdClearDisplay := 0x01#8
  cmdReturnHome := 0x02#8
  cmdEntryModeSet := 0x04#8
  cmdDisplayControl := 0x08#8
  cmdCursorShift := 0x10#8
  cmdFunctionSet := 0x20#8
  cmdSetDdramAddr := 0x80#8
  flagEntryLeft := 0x02#8
  flagShiftIncrement := 0x01#8
  flagDisplayOn := 0x04#8
  flagCursorOn := 0x02#8
  flagBlinkOn := 0x01#8
  flagDisplayMove := 0x08#8
  flagMoveRight := 0x04#8
  flag8Bit := 0x10#8
  flag2Line := 0x08#8
  flag5x10 := 0x04#8
  tEnHigh := 1000
  tEnLow := 37000
  cgramWriteRows := true

/-- The eight command codes of 30_encoding R59. -/
def commandCodes (c : Config) : List Byte :=
  [c.cmdClearDisplay, c.cmdReturnHome, c.cmdEntryModeSet, c.cmdDisplayControl, c.cmdCursorShift, c.cmdFunctionSet,
    cmdSetCgramAddr, c.cmdSetDdramAddr]

/-- The flag masks by the command code they are OR-ed with (30_encoding R62): those of the three flag registers, and the
two of the cursor-shift command, which are in no flag register. -/
def flagGroups (c : Config) : List (Byte × List Byte) :=
  [(c.cmdEntryModeSet, [c.flagEntryLeft, c.flagShiftIncrement]),
    (c.cmdDisplayControl, [c.flagDisplayOn, c.flagCursorOn, c.flagBlinkOn]),
    (c.cmdCursorShift, [c.flagDisplayMove, c.flagMoveRight]),
    (c.cmdFunctionSet, [c.flag8Bit, c.flag2Line, c.flag5x10])]

/-- One bit is set. -/
def isSingleBit (m : Byte) : Bool := (List.range 8).any fun i => m == 1#8 <<< i

/-- The constraints of 00_scope R13 and the minimums of R12 that a choice of the open parameters keeps. R13 asks for
distinct masks within one flag register; that the two masks of the cursor-shift command, which has no flag register, are
distinct too is the model's own constraint (DESIGN CHOICE, log entry 30). DEDUCED, log entry 30: the other constraint on
masks holds for these two as well, and `CMD_SET_DDRAM_ADDR` is `0x80` because R94 is modelled with its 7-bit address. -/
def configLawful (c : Config) : Bool :=
  decide (commandCodes c).Nodup &&
    (flagGroups c).all (fun g => g.2.all (fun m => isSingleBit m && g.1 &&& m == 0#8) && decide g.2.Nodup) &&
    c.cmdSetDdramAddr == 0x80#8 && decide (450 ≤ c.tEnHigh) && decide (37000 ≤ c.tEnLow)

end Sys2Proof.Machine
end

