-- ==== Sys2Proof/Machine/Flags.lean ====
section
/-! DEFINITION. Machine/Flags.lean: the flag registers as sets of masks (10_state R19 to R21, 30_encoding R60) and the
command bytes that carry flags (R62). -/

namespace Sys2Proof.Machine

/-- The mask of a flag that is on, 0 of one that is off (30_encoding R60). -/
def flagIf (on : Bool) (mask : Byte) : Byte := if on then mask else 0#8

/-- An "on" operation sets one bit and keeps the others (42_display_commands R95, R104). -/
def setFlag (register mask : Byte) : Byte := register ||| mask

/-- An "off" operation clears one bit and keeps the others (R95, R104). -/
def clearFlag (register mask : Byte) : Byte := register &&& ~~~mask

/-- `functionFlags` from `CONFIGURE`'s operands (41_configure_init R79; decisions D10, D11, log entry 16). -/
def functionFlagsOf (c : Config) (lines fontVariant : Byte) : Byte :=
  flagIf (decide (1 < lines.toNat)) c.flag2Line ||| flagIf (fontVariant != 0#8 && lines == 1#8) c.flag5x10

/-- The function-set command that carries a register value (30_encoding R62). -/
def functionSetCommand (c : Config) (register : Byte) : Byte := c.cmdFunctionSet ||| register

/-- The display-control command that carries a register value (R62). -/
def displayControlCommand (c : Config) (register : Byte) : Byte := c.cmdDisplayControl ||| register

/-- The entry-mode command that carries a register value (R62). -/
def entryModeCommand (c : Config) (register : Byte) : Byte := c.cmdEntryModeSet ||| register

/-- The cursor-shift command from its two flags (R59, R62). -/
def cursorShiftCommand (c : Config) (move right : Bool) : Byte :=
  c.cmdCursorShift ||| flagIf move c.flagDisplayMove ||| flagIf right c.flagMoveRight

/-- The flags of a function-set command byte `001wnf00` (R59). -/
def functionFields (c : Config) (w n f : Bool) : Byte :=
  flagIf w c.flag8Bit ||| flagIf n c.flag2Line ||| flagIf f c.flag5x10

/-- The flags of a display-control command byte `00001dcb` (R59). -/
def controlFields (c : Config) (d cursor b : Bool) : Byte :=
  flagIf d c.flagDisplayOn ||| flagIf cursor c.flagCursorOn ||| flagIf b c.flagBlinkOn

/-- The flags of an entry-mode command byte `000001is` (R59). -/
def modeFields (c : Config) (i s : Bool) : Byte := flagIf i c.flagEntryLeft ||| flagIf s c.flagShiftIncrement

end Sys2Proof.Machine
end

