-- ==== Sys2Proof/Syntax.lean ====
section
/-! DEFINITION. Syntax.lean: one constructor for each of the 36 rows of spec/opcode_table.json, and the form in which
the host presents an operation. -/

namespace Sys2Proof

/-- The rows of the opcode table. The first twenty are the host's operations (30_encoding R65), the next three the
Transport Layer's own (R65), the rest the bytes the block emits (R57 to R61), as the operations of the block that emit
them. -/
inductive Instr where
  /-- `CONFIGURE` (41_configure_init R89). -/
  | configure (columns lines fontVariant : Byte)
  /-- `CLEAR` (42_display_commands R92). -/
  | clear
  /-- `HOME` (R93). -/
  | home
  /-- `SET_CURSOR` (R94). -/
  | setCursor (col row : Byte)
  /-- `DISPLAY_ON` (R96). -/
  | displayOn
  /-- `DISPLAY_OFF` (R97). -/
  | displayOff
  /-- `CURSOR_ON` (R98). -/
  | cursorOn
  /-- `CURSOR_OFF` (R99). -/
  | cursorOff
  /-- `BLINK_ON` (R100). -/
  | blinkOn
  /-- `BLINK_OFF` (R101). -/
  | blinkOff
  /-- `SCROLL_LEFT` (R102). -/
  | scrollLeft
  /-- `SCROLL_RIGHT` (R103). -/
  | scrollRight
  /-- `LEFT_TO_RIGHT` (R105). -/
  | leftToRight
  /-- `RIGHT_TO_LEFT` (R106). -/
  | rightToLeft
  /-- `AUTOSCROLL_ON` (R107). -/
  | autoscrollOn
  /-- `AUTOSCROLL_OFF` (R108). -/
  | autoscrollOff
  /-- `CREATE_CHAR` (43_cgram_backlight_print R109). -/
  | createChar (slot : Byte) (rows : List Byte)
  /-- `BACKLIGHT_ON` (R110). -/
  | backlightOn
  /-- `BACKLIGHT_OFF` (R111). -/
  | backlightOff
  /-- `PRINT` (R112); `size` counts the terminator slot and has no width (30_encoding R67). -/
  | print (buffer : List Byte) (size : Nat)
  /-- `SEND_BYTE` (40_transport R75); `isData` true is the data register. -/
  | sendByte (value : Byte) (isData : Bool)
  /-- `WRITE_NIBBLE` (R74). -/
  | writeNibble (nibbleByte : Byte)
  /-- `EXPANDER_WRITE` (R73). -/
  | expanderWrite (byte : Byte)
  /-- The command byte `CLEAR_DISPLAY` (30_encoding R59). -/
  | clearDisplay
  /-- The command byte `RETURN_HOME` (R59). -/
  | returnHome
  /-- The command byte `ENTRY_MODE_SET`, pattern `000001is` (R59). -/
  | entryModeSet (i s : Bool)
  /-- The command byte `DISPLAY_CONTROL`, pattern `00001dcb` (R59). -/
  | displayControl (d c b : Bool)
  /-- The command byte `CURSOR_SHIFT`, pattern `0001mr00` (R59). -/
  | cursorShift (m r : Bool)
  /-- The command byte `FUNCTION_SET`, pattern `001wnf00` (R59). -/
  | functionSet (w n f : Bool)
  /-- The command byte `SET_CGRAM_ADDR`, pattern `01lll000` (R59). -/
  | setCgramAddr (l : BitVec 3)
  /-- The command byte `SET_DDRAM_ADDR`, pattern `1aaaaaaa` (R59). -/
  | setDdramAddr (a : BitVec 7)
  /-- The literal nibble byte `INIT_NIBBLE_8BIT` (41_configure_init R82). -/
  | initNibble8Bit
  /-- The literal nibble byte `INIT_NIBBLE_4BIT` (R83). -/
  | initNibble4Bit
  /-- A data byte, pattern `vvvvvvvv` (30_encoding R61). -/
  | dataByte (v : Byte)
  /-- A nibble byte, pattern `dddd000s` (R58). -/
  | nibbleByte (d : Nibble) (s : Bool)
  /-- An expander byte, pattern `ddddbe0s` (R57). -/
  | expanderByte (d : Nibble) (b e s : Bool)
deriving DecidableEq, Repr

/-- The twenty operations the host presents (30_encoding R65: "Exposed surface"); the others are reached only from
inside the block (60_exceptions R121). -/
def Instr.isHost : Instr → Bool
  | .configure _ _ _ | .clear | .home | .setCursor _ _ | .displayOn | .displayOff | .cursorOn | .cursorOff
  | .blinkOn | .blinkOff | .scrollLeft | .scrollRight | .leftToRight | .rightToLeft | .autoscrollOn
  | .autoscrollOff | .createChar _ _ | .backlightOn | .backlightOff | .print _ _ => true
  | .sendByte _ _ | .writeNibble _ | .expanderWrite _ | .clearDisplay | .returnHome | .entryModeSet _ _
  | .displayControl _ _ _ | .cursorShift _ _ | .functionSet _ _ _ | .setCgramAddr _ | .setDdramAddr _
  | .initNibble8Bit | .initNibble4Bit | .dataByte _ | .nibbleByte _ _ | .expanderByte _ _ _ _ => false

/-- How the host presents an operation: the op-select code of 30_encoding R66 with the operands beside it (decision
D18). DESIGN CHOICE, log entry 7: three byte lanes in the order of R65's operands, one lane for the byte list of
`CREATE_CHAR` and `PRINT`, one for `PRINT`'s unbounded `size`; an operation reads the lanes it has operands for. -/
structure Request where
  /-- The op-select code; for a row of another format, the row's 8-bit word. -/
  code : Byte
  /-- The first byte operand: `columns`, `col`, `slot`. -/
  laneA : Byte
  /-- The second byte operand: `lines`, `row`. -/
  laneB : Byte
  /-- The third byte operand: `fontVariant`. -/
  laneC : Byte
  /-- The byte list operand: `rows`, `buffer`. -/
  list : List Byte
  /-- The unbounded operand `size`. -/
  size : Nat
deriving DecidableEq, Repr

end Sys2Proof
end

