-- ==== Sys2Proof/WellFormed.lean ====
section
/-! DEFINITION. WellFormed.lean: the operand values for which the spec gives an operation a meaning (30_encoding R68),
and for an emitted byte the forms the block emits (R70, R58, R69). -/

namespace Sys2Proof

/-- `CONFIGURE` takes 1 to 4 lines (41_configure_init R78 b). -/
def linesLegal (lines : Byte) : Bool := decide (1 ≤ lines.toNat) && decide (lines.toNat ≤ 4)

/-- `PRINT` counts at least the terminator slot and finds `size - 1` bytes in its buffer (43 R112). -/
def printLegal (buffer : List Byte) (size : Nat) : Bool :=
  decide (1 ≤ size) && decide (size - 1 ≤ buffer.length)

/-- The operands the spec gives a meaning to. For an emitted row: the field values the block emits. -/
def Instr.wellFormed : Instr → Bool
  | .configure _ lines _ => linesLegal lines
  | .createChar _ rows => decide (rows.length = 8)
  | .print buffer size => printLegal buffer size
  | .writeNibble nb => decide (nb &&& 0x0E#8 = 0#8)
  | .cursorShift m _ => m
  | .functionSet w n f => !w && !(n && f)
  | .clear | .home | .setCursor _ _ | .displayOn | .displayOff | .cursorOn | .cursorOff | .blinkOn | .blinkOff
  | .scrollLeft | .scrollRight | .leftToRight | .rightToLeft | .autoscrollOn | .autoscrollOff | .backlightOn
  | .backlightOff | .sendByte _ _ | .expanderWrite _ | .clearDisplay | .returnHome | .entryModeSet _ _
  | .displayControl _ _ _ | .setCgramAddr _ | .setDdramAddr _ | .initNibble8Bit | .initNibble4Bit | .dataByte _
  | .nibbleByte _ _ | .expanderByte _ _ _ _ => true

end Sys2Proof
end

