-- ==== Sys2Proof/Decode.lean ====
section
/-! DEFINITION. Decode.lean: reading and writing the encodings of 30_encoding, one decoder for each format of the opcode
table, and the encoder. The command side of the block uses the op-select format alone (R66, 60_exceptions R121). -/

namespace Sys2Proof

/-- The formats of the opcode table (30_encoding R57 to R61, R66). The three internal operations have a format of
their own each, since the table gives them no code, only the layout of their operand. -/
inductive Format where
  | opsel8 | sendByte | writeNibble | expanderWrite | cmd8 | literal | data8 | nb8 | xb8
deriving DecidableEq, Repr

/-- Why a word is no instruction of a format. -/
inductive DecodeError where
  /-- An op-select code of `0x14` or more (30_encoding R66). -/
  | badOpSelect
  /-- A byte that is none of the eight command patterns (R59, R70). -/
  | notACommandByte
  /-- A byte that is neither initialization literal (41_configure_init R82, R83). -/
  | notALiteral
  /-- A nibble byte with one of bits 3:1 set (30_encoding R58). -/
  | notANibbleByte
  /-- An expander byte with bit 1 set (R57). -/
  | notAnExpanderByte
deriving DecidableEq, Repr

/-- The operation an op-select code names, with its operands from the lanes (30_encoding R65, R66). -/
def decodeOpSelect (r : Request) : Except DecodeError Instr :=
  match r.code with
  | 0x00#8 => .ok (.configure r.laneA r.laneB r.laneC)
  | 0x01#8 => .ok .clear
  | 0x02#8 => .ok .home
  | 0x03#8 => .ok (.setCursor r.laneA r.laneB)
  | 0x04#8 => .ok .displayOn
  | 0x05#8 => .ok .displayOff
  | 0x06#8 => .ok .cursorOn
  | 0x07#8 => .ok .cursorOff
  | 0x08#8 => .ok .blinkOn
  | 0x09#8 => .ok .blinkOff
  | 0x0A#8 => .ok .scrollLeft
  | 0x0B#8 => .ok .scrollRight
  | 0x0C#8 => .ok .leftToRight
  | 0x0D#8 => .ok .rightToLeft
  | 0x0E#8 => .ok .autoscrollOn
  | 0x0F#8 => .ok .autoscrollOff
  | 0x10#8 => .ok (.createChar r.laneA r.list)
  | 0x11#8 => .ok .backlightOn
  | 0x12#8 => .ok .backlightOff
  | 0x13#8 => .ok (.print r.list r.size)
  | _ => .error .badOpSelect

/-- A command byte by its highest set bit, with its fields (30_encoding R59); the bits a pattern gives as 0 must be 0. -/
def decodeCommand (b : Byte) : Except DecodeError Instr :=
  if b &&& 0x80#8 = 0x80#8 then .ok (.setDdramAddr (b.extractLsb' 0 7))
  else if b &&& 0xC7#8 = 0x40#8 then .ok (.setCgramAddr (b.extractLsb' 3 3))
  else if b &&& 0xE3#8 = 0x20#8 then .ok (.functionSet (b.getLsbD 4) (b.getLsbD 3) (b.getLsbD 2))
  else if b &&& 0xF3#8 = 0x10#8 then .ok (.cursorShift (b.getLsbD 3) (b.getLsbD 2))
  else if b &&& 0xF8#8 = 0x08#8 then .ok (.displayControl (b.getLsbD 2) (b.getLsbD 1) (b.getLsbD 0))
  else if b &&& 0xFC#8 = 0x04#8 then .ok (.entryModeSet (b.getLsbD 1) (b.getLsbD 0))
  else if b = 0x02#8 then .ok .returnHome
  else if b = 0x01#8 then .ok .clearDisplay
  else .error .notACommandByte

/-- The two nibble bytes given as literals (41_configure_init R82, R83). -/
def decodeLiteral (b : Byte) : Except DecodeError Instr :=
  if b = 0x30#8 then .ok .initNibble8Bit
  else if b = 0x20#8 then .ok .initNibble4Bit
  else .error .notALiteral

/-- A nibble byte `dddd000s` (30_encoding R58). -/
def decodeNibbleByte (b : Byte) : Except DecodeError Instr :=
  if b &&& 0x0E#8 = 0#8 then .ok (.nibbleByte (b.extractLsb' 4 4) (b.getLsbD 0)) else .error .notANibbleByte

/-- An expander byte `ddddbe0s` (30_encoding R57). -/
def decodeExpanderByte (b : Byte) : Except DecodeError Instr :=
  if b &&& 0x02#8 = 0#8 then .ok (.expanderByte (b.extractLsb' 4 4) (b.getLsbD 3) (b.getLsbD 2) (b.getLsbD 0))
  else .error .notAnExpanderByte

/-- The instruction a word is in a format. -/
def decodeAs (f : Format) (r : Request) : Except DecodeError Instr :=
  match f with
  | .opsel8 => decodeOpSelect r
  | .sendByte => .ok (.sendByte r.code (r.laneA.getLsbD 0))
  | .writeNibble => if r.code &&& 0x0E#8 = 0#8 then .ok (.writeNibble r.code) else .error .notANibbleByte
  | .expanderWrite => .ok (.expanderWrite r.code)
  | .cmd8 => decodeCommand r.code
  | .literal => decodeLiteral r.code
  | .data8 => .ok (.dataByte r.code)
  | .nb8 => decodeNibbleByte r.code
  | .xb8 => decodeExpanderByte r.code

/-- The request with a word and no operands beside it. -/
def Request.plain (code : Byte) : Request := ⟨code, 0#8, 0#8, 0#8, [], 0⟩

/-- One bit of a pattern, at its place. -/
def fieldBit (b : Bool) (place : Nat) : Byte := if b then 1#8 <<< place else 0#8

/-- A data nibble in bits 7:4 (30_encoding R57, R58). -/
def fieldNibble (d : Nibble) : Byte := d.setWidth 8 <<< 4

/-- The format of each row. -/
def Instr.format : Instr → Format
  | .configure _ _ _ | .clear | .home | .setCursor _ _ | .displayOn | .displayOff | .cursorOn | .cursorOff
  | .blinkOn | .blinkOff | .scrollLeft | .scrollRight | .leftToRight | .rightToLeft | .autoscrollOn
  | .autoscrollOff | .createChar _ _ | .backlightOn | .backlightOff | .print _ _ => .opsel8
  | .sendByte _ _ => .sendByte
  | .writeNibble _ => .writeNibble
  | .expanderWrite _ => .expanderWrite
  | .clearDisplay | .returnHome | .entryModeSet _ _ | .displayControl _ _ _ | .cursorShift _ _
  | .functionSet _ _ _ | .setCgramAddr _ | .setDdramAddr _ => .cmd8
  | .initNibble8Bit | .initNibble4Bit => .literal
  | .dataByte _ => .data8
  | .nibbleByte _ _ => .nb8
  | .expanderByte _ _ _ _ => .xb8

/-- The word and operands of an instruction, in its own format (30_encoding R57 to R61, R65). -/
def encode : Instr → Request
  | .configure columns lines fontVariant => ⟨0x00#8, columns, lines, fontVariant, [], 0⟩
  | .clear => Request.plain 0x01#8
  | .home => Request.plain 0x02#8
  | .setCursor col row => ⟨0x03#8, col, row, 0#8, [], 0⟩
  | .displayOn => Request.plain 0x04#8
  | .displayOff => Request.plain 0x05#8
  | .cursorOn => Request.plain 0x06#8
  | .cursorOff => Request.plain 0x07#8
  | .blinkOn => Request.plain 0x08#8
  | .blinkOff => Request.plain 0x09#8
  | .scrollLeft => Request.plain 0x0A#8
  | .scrollRight => Request.plain 0x0B#8
  | .leftToRight => Request.plain 0x0C#8
  | .rightToLeft => Request.plain 0x0D#8
  | .autoscrollOn => Request.plain 0x0E#8
  | .autoscrollOff => Request.plain 0x0F#8
  | .createChar slot rows => ⟨0x10#8, slot, 0#8, 0#8, rows, 0⟩
  | .backlightOn => Request.plain 0x11#8
  | .backlightOff => Request.plain 0x12#8
  | .print buffer size => ⟨0x13#8, 0#8, 0#8, 0#8, buffer, size⟩
  | .sendByte value isData => ⟨value, fieldBit isData 0, 0#8, 0#8, [], 0⟩
  | .writeNibble nb => Request.plain nb
  | .expanderWrite b => Request.plain b
  | .clearDisplay => Request.plain 0x01#8
  | .returnHome => Request.plain 0x02#8
  | .entryModeSet i s => Request.plain (0x04#8 ||| fieldBit i 1 ||| fieldBit s 0)
  | .displayControl d c b => Request.plain (0x08#8 ||| fieldBit d 2 ||| fieldBit c 1 ||| fieldBit b 0)
  | .cursorShift m r => Request.plain (0x10#8 ||| fieldBit m 3 ||| fieldBit r 2)
  | .functionSet w n f => Request.plain (0x20#8 ||| fieldBit w 4 ||| fieldBit n 3 ||| fieldBit f 2)
  | .setCgramAddr l => Request.plain (0x40#8 ||| l.setWidth 8 <<< 3)
  | .setDdramAddr a => Request.plain (0x80#8 ||| a.setWidth 8)
  | .initNibble8Bit => Request.plain 0x30#8
  | .initNibble4Bit => Request.plain 0x20#8
  | .dataByte v => Request.plain v
  | .nibbleByte d s => Request.plain (fieldNibble d ||| fieldBit s 0)
  | .expanderByte d b e s => Request.plain (fieldNibble d ||| fieldBit b 3 ||| fieldBit e 2 ||| fieldBit s 0)

/-- The eight bits of `w` from bit `place` up. -/
def byteAt (w place : Nat) : Byte := BitVec.ofNat 8 (w >>> place)

/-- The request whose bits are `w`, the code first and the lanes after it in order, every bit from `nbits` up being 0.
The list lane has the eight bytes of `CREATE_CHAR`'s rows. DESIGN CHOICE, log entries 7 and 8: the table gives the
operands no bits, so `w` is the code and every operand byte is zero. -/
def tableRequest (nbits w : Nat) : Request :=
  let v := w % 2 ^ nbits
  { code := byteAt v 0, laneA := byteAt v 8, laneB := byteAt v 16, laneC := byteAt v 24,
    list := [byteAt v 32, byteAt v 40, byteAt v 48, byteAt v 56, byteAt v 64, byteAt v 72, byteAt v 80, byteAt v 88],
    size := v >>> 96 }

/-- The instruction the command side reads from a word of the table's numbering (30_encoding R66). The words of the
rows that are not the host's operations are op-select codes like any other here (log entry 8). -/
def decodeTableWord (nbits w : Nat) : Option Instr :=
  match decodeOpSelect (tableRequest nbits w) with
  | .ok i => some i
  | .error _ => none

end Sys2Proof
end

