-- ==== Sys2Proof/Machine/Operands.lean ====
section
/-! DEFINITION. Machine/Operands.lean: the bytes the block computes from operands before it serializes them
(30_encoding R62, R63). -/

namespace Sys2Proof.Machine

/-- The register-select bit: `isData ? XB_RS : 0` (30_encoding R58). -/
def registerSelect (isData : Bool) : Byte := if isData then xbRs else 0#8

/-- The high nibble byte of a value (R58, R62). -/
def highNibbleByte (value : Byte) (isData : Bool) : Byte := (value &&& xbData) ||| registerSelect isData

/-- The low nibble byte of a value (R58, R62). -/
def lowNibbleByte (value : Byte) (isData : Bool) : Byte := ((value <<< 4) &&& xbData) ||| registerSelect isData

/-- The backlight bit merged into every bus byte (R62, 40_transport R73). -/
def backlightBit (backlight : Bool) : Byte := if backlight then xbBl else 0#8

/-- The row after the saturating clamp to `lineCount - 1` (30_encoding R63 f, 42_display_commands R94). -/
def clampedRow (lineCount row : Byte) : Nat := min row.toNat (lineCount.toNat - 1)

/-- The command byte of `SET_CURSOR`: the sum modulo 256, then the code (R94, decision D12, log entry 13). There is none
for a line count outside 1 to 4, which no run reaches (log entry 23). -/
def ddramCommand (c : Config) (lineCount col row : Byte) : Option Byte :=
  if linesLegal lineCount then
    (rowOffset (clampedRow lineCount row)).map fun offset => c.cmdSetDdramAddr ||| (col + offset)
  else none

/-- The command byte of `CREATE_CHAR`: the slot modulo 8, in bits 5:3 (30_encoding R62, R63 d). -/
def cgramCommand (slot : Byte) : Byte := cmdSetCgramAddr ||| ((slot &&& 0x07#8) <<< 3)

/-- A nibble byte from its fields (R58). -/
def nibbleByteOf (d : Nibble) (s : Bool) : Byte := fieldNibble d ||| registerSelect s

/-- An expander byte from its fields; bit 1 is 0 (R57). -/
def expanderByteOf (d : Nibble) (b e s : Bool) : Byte :=
  fieldNibble d ||| backlightBit b ||| (if e then xbEn else 0#8) ||| registerSelect s

end Sys2Proof.Machine
end

