-- ==== Sys2Proof/Machine/State.lean ====
section
/-! DEFINITION. Machine/State.lean: the state of one block (10_state), its stops, and the state at power-on. -/

namespace Sys2Proof.Machine

/-- The lifecycle register `phase` (10_state R25). -/
inductive Phase where
  | unconfigured | ready
deriving DecidableEq, Repr

/-- An event of the output trace (00_scope R10). -/
inductive Event where
  /-- `BusWrite(address, bytes)`: one use of the bus-write service. -/
  | busWrite (address : BusAddress) (bytes : List Byte)
  /-- `Delay(ns)`: one use of the delay service, a lower bound in nanoseconds (70_reset_and_hazards R131). -/
  | delay (ns : Nat)
deriving DecidableEq, Repr

/-- The block's faults: there is none, "the list of synchronous exception causes is empty" (60_exceptions R113), so
the type has no constructor and no step can end in one. Log entry 22. -/
inductive Fault
deriving DecidableEq, Repr

/-- Why the model gives an operation no meaning: the complete list of 60_exceptions R116. -/
inductive Refusal where
  /-- Raised by `exec` for an instruction with no meaning yet; no arm raises it. Safe. -/
  | notModelled (mnemonic : String)
  /-- R116 (1), raised by every host operation but `CONFIGURE` while `phase` is unconfigured. Safe. -/
  | notConfigured
  /-- R116 (2), raised by `CONFIGURE` while `phase` is ready. Safe. -/
  | configureTwice
  /-- R116 (3), raised by `CONFIGURE` with `lines` outside 1 to 4; also by `SET_CURSOR` in a state no run reaches, whose
  `lineCount` is outside 1 to 4 (log entry 23). Safe. -/
  | linesOutOfRange
  /-- R116 (4), raised by `PRINT` with `size = 0`. Safe. -/
  | printSizeZero
  /-- R116 (5), raised by `PRINT` with fewer than `size - 1` bytes in its buffer. Safe. -/
  | printBufferShort
  /-- R116 (6), raised by `CREATE_CHAR` with other than eight rows. Safe. -/
  | rowsLength
  /-- R116 (7), raised by the command side for an op-select code of `0x14` or more. Safe. -/
  | badOpSelect
deriving DecidableEq, Repr

/-- The state of one block (10_state R17, R18): its registers, the ghost `XLATCH`, the output trace, the instance's
parameters, and the operations the host has still to present. -/
structure State where
  /-- The open parameters of this block (00_scope R12); no step changes them. The model's own field, log entry 4. -/
  config : Config
  /-- R25. -/
  phase : Phase
  /-- R19. -/
  functionFlags : Byte
  /-- R20. -/
  controlFlags : Byte
  /-- R21. -/
  modeFlags : Byte
  /-- R22. -/
  lineCount : Byte
  /-- R23. -/
  columnCount : Byte
  /-- R24. -/
  backlightState : Bool
  /-- R26: the byte of the most recent bus write. The block never reads it. -/
  xlatch : Byte
  /-- The output trace, oldest event first (00_scope R10). -/
  trace : List Event
  /-- The operations the host has still to present, first one first (10_state R28). The model's own field, log entry 1. -/
  program : List Request
deriving DecidableEq, Repr

/-- Power-on, the block's only reset (70_reset_and_hazards R128, 10_state R34). The registers the spec leaves without a
value hold the opaque constants of Config.lean (log entries 2, 3). -/
def State.reset : State where
  config := standardConfig
  phase := .unconfigured
  functionFlags := Config.powerOnFunctionFlags
  controlFlags := Config.powerOnControlFlags
  modeFlags := Config.powerOnModeFlags
  lineCount := Config.powerOnLineCount
  columnCount := Config.powerOnColumnCount
  backlightState := Config.powerOnBacklight
  xlatch := Config.powerOnXlatch
  trace := []
  program := []

end Sys2Proof.Machine
end

