-- ==== Sys2Proof/Machine/Ops.lean ====
section
/-! DEFINITION. Machine/Ops.lean: what a step does to the state, under names: the register writes, the output trace, the
three transport operations as event lists (40_transport R73 to R75), and the phase gate (42_display_commands R91).
The block has no exception, no trap entry and no return from one (60_exceptions R113, R119, R120), so no operation
takes one. -/

namespace Sys2Proof.Machine

/-- The expander's output after some events: each bus write to its address replaces it whole (10_state R26). -/
def lastBusByte (before : Byte) : List Event → Byte
  | [] => before
  | .busWrite address bytes :: rest =>
    lastBusByte (if address = deviceAddress then bytes.getLastD before else before) rest
  | .delay _ :: rest => lastBusByte before rest

/-- `emit`: append events to the trace, in order (00_scope R15, 20_memory R51). -/
def State.emit (s : State) (events : List Event) : State :=
  { s with trace := s.trace ++ events, xlatch := lastBusByte s.xlatch events }

/-- Write `controlFlags` (10_state R20). -/
def State.withControlFlags (s : State) (v : Byte) : State := { s with controlFlags := v }

/-- Write `modeFlags` (R21). -/
def State.withModeFlags (s : State) (v : Byte) : State := { s with modeFlags := v }

/-- Write `backlightState` (R24). -/
def State.withBacklight (s : State) (on : Bool) : State := { s with backlightState := on }

/-- Write `phase` (R25). -/
def State.withPhase (s : State) (p : Phase) : State := { s with phase := p }

/-- The register set-up of `CONFIGURE` before its first event (41_configure_init R79). -/
def State.withGeometry (s : State) (columns lines fontVariant : Byte) : State :=
  { s with lineCount := lines, columnCount := columns, backlightState := true,
           functionFlags := functionFlagsOf s.config lines fontVariant }

/-- Replace what the host has still to present (10_state R28). -/
def State.withProgram (s : State) (p : List Request) : State := { s with program := p }

/-- `XW(byte)` (40_transport R73). -/
def expanderWriteEvents (backlight : Bool) (byte : Byte) : List Event :=
  [.busWrite deviceAddress [byte ||| backlightBit backlight], .delay tXw]

/-- `WN(nb)` (40_transport R74). -/
def writeNibbleEvents (c : Config) (backlight : Bool) (nb : Byte) : List Event :=
  expanderWriteEvents backlight nb ++ expanderWriteEvents backlight (nb ||| xbEn) ++ [.delay c.tEnHigh] ++
    expanderWriteEvents backlight (nb &&& ~~~xbEn) ++ [.delay c.tEnLow]

/-- `SB(value, isData)` (40_transport R75). -/
def sendByteEvents (c : Config) (backlight : Bool) (value : Byte) (isData : Bool) : List Event :=
  writeNibbleEvents c backlight (highNibbleByte value isData) ++
    writeNibbleEvents c backlight (lowNibbleByte value isData)

/-- `emit XW(byte)`, with the backlight the register holds (R73). -/
def State.writeExpander (s : State) (byte : Byte) : State := s.emit (expanderWriteEvents s.backlightState byte)

/-- `emit WN(nb)` (R74). -/
def State.writeNibble (s : State) (nb : Byte) : State := s.emit (writeNibbleEvents s.config s.backlightState nb)

/-- `emit SB(value, isData)` (R75). -/
def State.sendByte (s : State) (value : Byte) (isData : Bool) : State :=
  s.emit (sendByteEvents s.config s.backlightState value isData)

/-- `emit COMMAND(v)` (R75, 30_encoding R72). -/
def State.command (s : State) (v : Byte) : State := s.sendByte v false

/-- `emit WRITE_DATA(v)` (R75, R72). -/
def State.writeData (s : State) (v : Byte) : State := s.sendByte v true

/-- `emit [Delay(ns)]`. -/
def State.wait (s : State) (ns : Nat) : State := s.emit [.delay ns]

/-- One `WRITE_DATA` for each byte, in ascending order (the loops of 43 R109 and R112). -/
def State.writeAll (s : State) : List Byte → State
  | [] => s
  | v :: rest => (s.writeData v).writeAll rest

/-- Send `controlFlags` whole (42_display_commands R95). -/
def State.flushControl (s : State) : State := s.command (displayControlCommand s.config s.controlFlags)

/-- Send `modeFlags` whole (R104). -/
def State.flushMode (s : State) : State := s.command (entryModeCommand s.config s.modeFlags)

/-- Write `controlFlags` and send it, whether or not it changed (R95, decision D25). -/
def State.updateControl (s : State) (v : Byte) : State := (s.withControlFlags v).flushControl

/-- Write `modeFlags` and send it, whether or not it changed (R104, decision D25). -/
def State.updateMode (s : State) (v : Byte) : State := (s.withModeFlags v).flushMode

/-- The clear-display command and its settle (42_display_commands R92, 41_configure_init R86). -/
def State.clearAndSettle (s : State) : State := (s.command s.config.cmdClearDisplay).wait tClearHome

/-- The return-home command and its settle (R93, R88). -/
def State.homeAndSettle (s : State) : State := (s.command s.config.cmdReturnHome).wait tClearHome

/-- The outcome of an operation, a step of the block. -/
abbrev Result := Host.Outcome State Fault Refusal

/-- The common precondition `phase = READY` (42_display_commands R91, 60_exceptions R116). -/
def whenReady (s : State) (k : Result) : Result :=
  match s.phase with
  | .ready => k
  | .unconfigured => .refused .notConfigured

/-- What the command side finds (00_scope R9). -/
inductive Fetched where
  /-- The host has presented everything: the run is over (70_reset_and_hazards R130). -/
  | idle
  /-- An operation, and the state in which it runs. -/
  | run (i : Instr) (s : State)
  /-- A code that selects nothing. -/
  | refuse (r : Refusal)
deriving DecidableEq, Repr

/-- Take the next operation the host presents (00_scope R9, 30_encoding R66). -/
def fetch (s : State) : Fetched :=
  match s.program with
  | [] => .idle
  | r :: rest =>
    match decodeOpSelect r with
    | .ok i => .run i (s.withProgram rest)
    | .error _ => .refuse .badOpSelect

end Sys2Proof.Machine
end

