-- ==== Sys2Proof/Machine/Characters.lean ====
section
/-! DEFINITION. Machine/Characters.lean: the four operations of 43_cgram_backlight_print. -/

namespace Sys2Proof.Machine

/-- `CREATE_CHAR` (43 R109); the eight data writes are the document's reconstruction (decision D13, log entry 14). -/
def execCreateChar (slot : Byte) (rows : List Byte) (s : State) : Result :=
  whenReady s
    (if rows.length = 8 then
      .next ((s.command (cgramCommand slot)).writeAll (if s.config.cgramWriteRows then rows else []))
    else .refused .rowsLength)

/-- `BACKLIGHT_ON` (R110): emits nothing. -/
def execBacklightOn (s : State) : Result := whenReady s (.next (s.withBacklight true))

/-- `BACKLIGHT_OFF` (R111): emits nothing. -/
def execBacklightOff (s : State) : Result := whenReady s (.next (s.withBacklight false))

/-- `PRINT` (R112): `buffer[0]` to `buffer[size - 2]`, by count alone; the checks in the order of 60_exceptions R118. -/
def execPrint (buffer : List Byte) (size : Nat) (s : State) : Result :=
  whenReady s
    (if size = 0 then .refused .printSizeZero
    else if buffer.length < size - 1 then .refused .printBufferShort
    else .next (s.writeAll (buffer.take (size - 1))))

end Sys2Proof.Machine
end

