-- ==== Sys2Proof/Machine/Configure.lean ====
section
/-! DEFINITION. Machine/Configure.lean: `CONFIGURE` and the initialization handshake (41_configure_init), one definition
for each of its nine steps (R80 to R88). -/

namespace Sys2Proof.Machine

/-- Step 1 (R80). -/
def configureStep1 (s : State) : State := s.wait tPowerUp

/-- Step 2 (R81). -/
def configureStep2 (s : State) : State := (s.writeExpander 0x00#8).wait tResetSettle

/-- Step 3 (R82): three nibble-only transfers, each with its delay after it. -/
def configureStep3 (s : State) : State :=
  let first := (s.writeNibble initNibble8BitByte).wait tInit1
  let second := (first.writeNibble initNibble8BitByte).wait tInit2
  (second.writeNibble initNibble8BitByte).wait tInit3

/-- Step 4 (R83); no delay of its own (decision D28). -/
def configureStep4 (s : State) : State := s.writeNibble initNibble4BitByte

/-- Step 5 (R84). -/
def configureStep5 (s : State) : State := s.command (functionSetCommand s.config s.functionFlags)

/-- Step 6 (R85). -/
def configureStep6 (s : State) : State := s.updateControl s.config.flagDisplayOn

/-- Step 7 (R86). -/
def configureStep7 (s : State) : State := s.clearAndSettle

/-- Step 8 (R87). -/
def configureStep8 (s : State) : State := s.updateMode s.config.flagEntryLeft

/-- Step 9 (R88). -/
def configureStep9 (s : State) : State := s.homeAndSettle.withPhase .ready

/-- The nine steps, in this order and no other (R89). -/
def initHandshake (s : State) : State :=
  configureStep9 (configureStep8 (configureStep7 (configureStep6 (configureStep5 (configureStep4 (configureStep3
    (configureStep2 (configureStep1 s))))))))

/-- `CONFIGURE` (41_configure_init R89); the checks in the order of 60_exceptions R118. -/
def execConfigure (columns lines fontVariant : Byte) (s : State) : Result :=
  match s.phase with
  | .ready => .refused .configureTwice
  | .unconfigured =>
    if linesLegal lines then .next (initHandshake (s.withGeometry columns lines fontVariant))
    else .refused .linesOutOfRange

end Sys2Proof.Machine
end

