-- ==== Sys2Proof/Machine/Display.lean ====
section
/-! DEFINITION. Machine/Display.lean: the fifteen operations of 42_display_commands. -/

namespace Sys2Proof.Machine

/-- `CLEAR` (42_display_commands R92). -/
def execClear (s : State) : Result := whenReady s (.next s.clearAndSettle)

/-- `HOME` (R93). -/
def execHome (s : State) : Result := whenReady s (.next s.homeAndSettle)

/-- `SET_CURSOR` (R94). -/
def execSetCursor (col row : Byte) (s : State) : Result :=
  whenReady s
    (match ddramCommand s.config s.lineCount col row with
    | some v => .next (s.command v)
    | none => .refused .linesOutOfRange)

/-- `DISPLAY_ON` (R96). -/
def execDisplayOn (s : State) : Result :=
  whenReady s (.next (s.updateControl (setFlag s.controlFlags s.config.flagDisplayOn)))

/-- `DISPLAY_OFF` (R97). -/
def execDisplayOff (s : State) : Result :=
  whenReady s (.next (s.updateControl (clearFlag s.controlFlags s.config.flagDisplayOn)))

/-- `CURSOR_ON` (R98). -/
def execCursorOn (s : State) : Result :=
  whenReady s (.next (s.updateControl (setFlag s.controlFlags s.config.flagCursorOn)))

/-- `CURSOR_OFF` (R99). -/
def execCursorOff (s : State) : Result :=
  whenReady s (.next (s.updateControl (clearFlag s.controlFlags s.config.flagCursorOn)))

/-- `BLINK_ON` (R100). -/
def execBlinkOn (s : State) : Result :=
  whenReady s (.next (s.updateControl (setFlag s.controlFlags s.config.flagBlinkOn)))

/-- `BLINK_OFF` (R101). -/
def execBlinkOff (s : State) : Result :=
  whenReady s (.next (s.updateControl (clearFlag s.controlFlags s.config.flagBlinkOn)))

/-- `SCROLL_LEFT` (R102). -/
def execScrollLeft (s : State) : Result := whenReady s (.next (s.command (cursorShiftCommand s.config true false)))

/-- `SCROLL_RIGHT` (R103). -/
def execScrollRight (s : State) : Result := whenReady s (.next (s.command (cursorShiftCommand s.config true true)))

/-- `LEFT_TO_RIGHT` (R105). -/
def execLeftToRight (s : State) : Result :=
  whenReady s (.next (s.updateMode (setFlag s.modeFlags s.config.flagEntryLeft)))

/-- `RIGHT_TO_LEFT` (R106). -/
def execRightToLeft (s : State) : Result :=
  whenReady s (.next (s.updateMode (clearFlag s.modeFlags s.config.flagEntryLeft)))

/-- `AUTOSCROLL_ON` (R107). -/
def execAutoscrollOn (s : State) : Result :=
  whenReady s (.next (s.updateMode (setFlag s.modeFlags s.config.flagShiftIncrement)))

/-- `AUTOSCROLL_OFF` (R108). -/
def execAutoscrollOff (s : State) : Result :=
  whenReady s (.next (s.updateMode (clearFlag s.modeFlags s.config.flagShiftIncrement)))

end Sys2Proof.Machine
end

