-- ==== Sys2Proof/Machine/Emitted.lean ====
section
/-! DEFINITION. Machine/Emitted.lean: the rows of the opcode table that are bytes the block emits, as the operation of
the block that emits them (log entry 9): a command byte by `COMMAND` (30_encoding R59, R72), a data byte by `WRITE_DATA`
(R61), a nibble byte and the two literals by `WRITE_NIBBLE` (R58, R64), an expander byte by `EXPANDER_WRITE` (R57). -/

namespace Sys2Proof.Machine

/-- `CLEAR_DISPLAY` (30_encoding R59); the 2 ms settle is `CLEAR`'s own (42_display_commands R92). -/
def execClearDisplay (s : State) : Result := .next (s.command s.config.cmdClearDisplay)

/-- `RETURN_HOME` (R59). -/
def execReturnHome (s : State) : Result := .next (s.command s.config.cmdReturnHome)

/-- `ENTRY_MODE_SET` (R59). -/
def execEntryModeSet (i sh : Bool) (s : State) : Result :=
  .next (s.command (entryModeCommand s.config (modeFields s.config i sh)))

/-- `DISPLAY_CONTROL` (R59). -/
def execDisplayControl (d c b : Bool) (s : State) : Result :=
  .next (s.command (displayControlCommand s.config (controlFields s.config d c b)))

/-- `CURSOR_SHIFT` (R59). -/
def execCursorShift (m r : Bool) (s : State) : Result := .next (s.command (cursorShiftCommand s.config m r))

/-- `FUNCTION_SET` (R59). -/
def execFunctionSet (w n f : Bool) (s : State) : Result :=
  .next (s.command (functionSetCommand s.config (functionFields s.config w n f)))

/-- `SET_CGRAM_ADDR` (R59). -/
def execSetCgramAddr (l : BitVec 3) (s : State) : Result := .next (s.command (cgramCommand (l.setWidth 8)))

/-- `SET_DDRAM_ADDR` (R59). -/
def execSetDdramAddr (a : BitVec 7) (s : State) : Result :=
  .next (s.command (s.config.cmdSetDdramAddr ||| a.setWidth 8))

/-- `INIT_NIBBLE_8BIT` (41_configure_init R82). -/
def execInitNibble8Bit (s : State) : Result := .next (s.writeNibble initNibble8BitByte)

/-- `INIT_NIBBLE_4BIT` (R83). -/
def execInitNibble4Bit (s : State) : Result := .next (s.writeNibble initNibble4BitByte)

/-- A data byte (30_encoding R61). -/
def execDataByte (v : Byte) (s : State) : Result := .next (s.writeData v)

/-- A nibble byte (R58). -/
def execNibbleByte (d : Nibble) (rs : Bool) (s : State) : Result := .next (s.writeNibble (nibbleByteOf d rs))

/-- An expander byte (R57): every bus byte passes through `EXPANDER_WRITE`, which merges the backlight bit and settles
(40_transport R73, log entry 10). -/
def execExpanderByte (d : Nibble) (b e rs : Bool) (s : State) : Result :=
  .next (s.writeExpander (expanderByteOf d b e rs))

end Sys2Proof.Machine
end

