-- ==== Sys2Proof/Machine/Transport.lean ====
section
/-! DEFINITION. Machine/Transport.lean: the three operations of the Transport Layer (40_transport). They have no
precondition: `CONFIGURE` reaches them while `phase` is still unconfigured (log entry 9). -/

namespace Sys2Proof.Machine

/-- `SEND_BYTE` (40_transport R75). -/
def execSendByte (value : Byte) (isData : Bool) (s : State) : Result := .next (s.sendByte value isData)

/-- `WRITE_NIBBLE` (R74); a nibble byte with one of bits 3:1 set is written as the pseudocode says (log entry 27). -/
def execWriteNibble (nb : Byte) (s : State) : Result := .next (s.writeNibble nb)

/-- `EXPANDER_WRITE` (R73). -/
def execExpanderWrite (byte : Byte) (s : State) : Result := .next (s.writeExpander byte)

end Sys2Proof.Machine
end

