-- ==== Sys2Proof/Machine/Dispatch.lean ====
section
/-! DEFINITION. Machine/Dispatch.lean: one arm for each row of the opcode table. -/

namespace Sys2Proof.Machine

def exec (i : Instr) (s : State) : Host.Outcome State Fault Refusal :=
  match i with
  -- host operations (30_encoding R65)
  | .configure columns lines fontVariant => Sys2Proof.Machine.execConfigure columns lines fontVariant s
  | .clear => Sys2Proof.Machine.execClear s
  | .home => Sys2Proof.Machine.execHome s
  | .setCursor col row => Sys2Proof.Machine.execSetCursor col row s
  | .displayOn => Sys2Proof.Machine.execDisplayOn s
  | .displayOff => Sys2Proof.Machine.execDisplayOff s
  | .cursorOn => Sys2Proof.Machine.execCursorOn s
  | .cursorOff => Sys2Proof.Machine.execCursorOff s
  | .blinkOn => Sys2Proof.Machine.execBlinkOn s
  | .blinkOff => Sys2Proof.Machine.execBlinkOff s
  | .scrollLeft => Sys2Proof.Machine.execScrollLeft s
  | .scrollRight => Sys2Proof.Machine.execScrollRight s
  | .leftToRight => Sys2Proof.Machine.execLeftToRight s
  | .rightToLeft => Sys2Proof.Machine.execRightToLeft s
  | .autoscrollOn => Sys2Proof.Machine.execAutoscrollOn s
  | .autoscrollOff => Sys2Proof.Machine.execAutoscrollOff s
  | .createChar slot rows => Sys2Proof.Machine.execCreateChar slot rows s
  | .backlightOn => Sys2Proof.Machine.execBacklightOn s
  | .backlightOff => Sys2Proof.Machine.execBacklightOff s
  | .print buffer size => Sys2Proof.Machine.execPrint buffer size s
  -- internal operations (R65)
  | .sendByte value isData => Sys2Proof.Machine.execSendByte value isData s
  | .writeNibble nb => Sys2Proof.Machine.execWriteNibble nb s
  | .expanderWrite byte => Sys2Proof.Machine.execExpanderWrite byte s
  -- emitted bytes (R57 to R61, 41_configure_init R82, R83)
  | .clearDisplay => Sys2Proof.Machine.execClearDisplay s
  | .returnHome => Sys2Proof.Machine.execReturnHome s
  | .entryModeSet i' sh => Sys2Proof.Machine.execEntryModeSet i' sh s
  | .displayControl d c b => Sys2Proof.Machine.execDisplayControl d c b s
  | .cursorShift m r => Sys2Proof.Machine.execCursorShift m r s
  | .functionSet w n f => Sys2Proof.Machine.execFunctionSet w n f s
  | .setCgramAddr l => Sys2Proof.Machine.execSetCgramAddr l s
  | .setDdramAddr a => Sys2Proof.Machine.execSetDdramAddr a s
  | .initNibble8Bit => Sys2Proof.Machine.execInitNibble8Bit s
  | .initNibble4Bit => Sys2Proof.Machine.execInitNibble4Bit s
  | .dataByte v => Sys2Proof.Machine.execDataByte v s
  | .nibbleByte d rs => Sys2Proof.Machine.execNibbleByte d rs s
  | .expanderByte d b e rs => Sys2Proof.Machine.execExpanderByte d b e rs s

end Sys2Proof.Machine
end

