-- ==== Sys2Proof/Machine/Step.lean ====
section
/-! DEFINITION. Machine/Step.lean: one step is one whole operation (10_state R28, decision D2). -/

namespace Sys2Proof.Machine

/-- Take the next operation the host presents and run it whole. When the host has presented everything, the block waits:
nothing changes (log entry 1). -/
def step (s : State) : Host.Outcome State Fault Refusal :=
  match fetch s with
  | .idle => .next s
  | .run i s' => exec i s'
  | .refuse r => .refused r

/-- The state in which the host presents next the operation whose bits are `w` (log entries 1, 8). -/
def State.withFetchWord (s : State) (nbits w : Nat) : State := s.withProgram (tableRequest nbits w :: s.program)

end Sys2Proof.Machine
end

