-- ==== Sys2Proof/Machine/Observers.lean ====
section
/-! DEFINITION. Machine/Observers.lean: what can be read off an output trace. None of it is state of the block and none
is a model of the controller (00_scope R8, 20_memory R56). -/

namespace Sys2Proof.Machine

/-- The bytes of the bus writes of some events, in order. -/
def busBytes : List Event → List Byte
  | [] => []
  | .busWrite _ bytes :: rest => bytes ++ busBytes rest
  | .delay _ :: rest => busBytes rest

/-- The number of bus writes (the counts of 40_transport R76 a, 70 R135). -/
def busWrites : List Event → Nat
  | [] => 0
  | .busWrite _ _ :: rest => busWrites rest + 1
  | .delay _ :: rest => busWrites rest

/-- The sum of the delays in nanoseconds, a lower bound on the time the events take (70_reset_and_hazards R135). -/
def minDuration : List Event → Nat
  | [] => 0
  | .busWrite _ _ :: rest => minDuration rest
  | .delay ns :: rest => ns + minDuration rest

/-- Some events with each run of adjacent delays merged into one delay of their sum: the form two traces share that differ
only by merging or splitting delays (70_reset_and_hazards R131). -/
def mergeDelays : List Event → List Event
  | [] => []
  | .busWrite address bytes :: rest => .busWrite address bytes :: mergeDelays rest
  | .delay d :: rest =>
    match mergeDelays rest with
    | .delay e :: later => .delay (d + e) :: later
    | later => .delay d :: later

/-- Event by event, the second list has the bus writes of the first and no shorter delays. -/
def noShorter : List Event → List Event → Bool
  | [], [] => true
  | .busWrite a1 b1 :: rest1, .busWrite a2 b2 :: rest2 => a1 == a2 && b1 == b2 && noShorter rest1 rest2
  | .delay d :: rest1, .delay e :: rest2 => decide (d ≤ e) && noShorter rest1 rest2
  | _, _ => false

/-- `actual` is `required` with some delays lengthened, adjacent delays being merged or split at will (R131: a delay is a
lower bound). -/
def waitsAtLeast (required actual : List Event) : Bool := noShorter (mergeDelays required) (mergeDelays actual)

/-- What must be waited after a bus write before the next one (70 R132): `T_XW`, and with it `T_EN_HIGH` where the write
leaves the enable bit high, `T_EN_LOW` where it has taken the bit from high to low. R132 issues `T_EN_LOW` inside
`WRITE_NIBBLE`; that any fall of the bit owes it is the model's choice (DESIGN CHOICE, log entry 31). -/
def waitAfter (c : Config) (before now : Byte) : Nat :=
  tXw + (if now.getLsbD 2 then c.tEnHigh else if before.getLsbD 2 then c.tEnLow else 0)

/-- Every bus write is waited out before the next one and before the end (R132, R133 H-c): `owed` is what is still to be
waited, `before` the byte on the lines, which the caller gives: before the first bus write of all the spec leaves it
unknown (93 entry U14, log entries 3, 31). -/
def waitsOut (c : Config) (owed : Nat) (before : Byte) : List Event → Bool
  | [] => decide (owed = 0)
  | .delay d :: rest => waitsOut c (owed - d) before rest
  | .busWrite _ bytes :: rest =>
    decide (owed = 0) && waitsOut c (waitAfter c before (bytes.getLastD before)) (bytes.getLastD before) rest

/-- The nibbles latched at the falling edges of the enable bit, the lines having held `before` (20_memory R56). -/
def latchedAfter (before : Byte) : List Byte → List (Bool × Nibble)
  | [] => []
  | b :: rest =>
    (if before.getLsbD 2 && !b.getLsbD 2 then [(b.getLsbD 0, b.extractLsb' 4 4)] else []) ++ latchedAfter b rest

/-- `Latched` of a list of bus bytes: what the byte before the first held is unknown, so no edge is read there (R56). -/
def latched : List Byte → List (Bool × Nibble)
  | [] => []
  | b :: rest => latchedAfter b rest

/-- Latched nibbles read two by two, high nibble first, as the test vectors write them (95_test_vectors, conventions; a
reading aid, log entry 24). -/
def pairNibbles : List (Bool × Nibble) → List (Bool × Byte)
  | (rs, high) :: (_, low) :: rest => (rs, high ++ low) :: pairNibbles rest
  | _ => []

/-- The bytes sent by the two-nibble form in a trace that began with `CONFIGURE`: what is latched after the four
initialization nibbles (30_encoding R64, 41_configure_init R89). -/
def sentBytes (trace : List Event) : List (Bool × Byte) := pairNibbles ((latched (busBytes trace)).drop 4)

/-- The command bytes among sent bytes (30_encoding R59: register-select 0). -/
def sentCommands (sent : List (Bool × Byte)) : List Byte := (sent.filter fun p => !p.1).map Prod.snd

/-- The last sent command byte that a match and a mask recognise (30_encoding R59, the default codes). -/
def lastCommand (mask pattern : Byte) (commands : List Byte) : Option Byte :=
  (commands.filter fun v => v &&& mask == pattern).getLast?

end Sys2Proof.Machine
end

