-- ==== Sys2Proof/Safety.lean ====
section
/-! DEFINITION. Safety.lean: the terms in which claims about the block are stated: the spec's expanded event lists with
their numbers written out, what each operation may write, what a legal state is, and the tables of 70 R135 and
30_encoding R70. -/

namespace Sys2Proof.Safety

open Sys2Proof.Machine

/-- The backlight bit as a number: bit 3 (00_scope R12). -/
def lamp (on : Bool) : Byte := if on then 0x08#8 else 0x00#8

/-- The register-select bit as a number: bit 0 (00_scope R12). -/
def select (isData : Bool) : Byte := if isData then 0x01#8 else 0x00#8

/-- The eight events of a nibble transfer, as 40_transport R74 writes them out under "Expanded". -/
def nibbleTransfer (c : Config) (on : Bool) (nb : Byte) : List Event :=
  [.busWrite 0x27#7 [nb ||| lamp on], .delay 2000000,
    .busWrite 0x27#7 [nb ||| 0x04#8 ||| lamp on], .delay 2000000, .delay c.tEnHigh,
    .busWrite 0x27#7 [(nb &&& 0xFB#8) ||| lamp on], .delay 2000000, .delay c.tEnLow]

/-- The two nibble transfers of a byte, high nibble first, by the formulas of 40_transport R75. -/
def byteTransfer (c : Config) (on : Bool) (isData : Bool) (value : Byte) : List Event :=
  nibbleTransfer c on ((value &&& 0xF0#8) ||| select isData) ++
    nibbleTransfer c on (((value <<< 4) &&& 0xF0#8) ||| select isData)

/-- The state after some events and nothing else: the trace is longer, and the ghost holds the last bus byte. -/
def emitting (s : State) (events : List Event) (last : Byte) : State :=
  { s with trace := s.trace ++ events, xlatch := last }

/-- The state after one byte sent by the two-nibble form, and nothing else. -/
def sending (s : State) (isData : Bool) (value : Byte) : State :=
  emitting s (byteTransfer s.config s.backlightState isData value)
    (((value <<< 4) &&& 0xF0#8) ||| select isData ||| lamp s.backlightState)

/-- The state after one nibble transfer, and nothing else. -/
def sendingNibble (s : State) (nb : Byte) : State :=
  emitting s (nibbleTransfer s.config s.backlightState nb) ((nb &&& 0xFB#8) ||| lamp s.backlightState)

/-- The state after one bus write with its settle, and nothing else. -/
def sendingBusByte (s : State) (byte : Byte) : State :=
  emitting s [.busWrite 0x27#7 [byte ||| lamp s.backlightState], .delay 2000000] (byte ||| lamp s.backlightState)

/-- The state after a further delay. -/
def delaying (s : State) (ns : Nat) : State := { s with trace := s.trace ++ [.delay ns] }

/-- The events of the nine steps of `CONFIGURE`, the backlight on, step by step (41_configure_init R80 to R88); `fs` is
the function-set command byte of step 5. -/
def handshakeEvents (c : Config) (fs : Byte) : List Event :=
  [.delay 50000000] ++
  [.busWrite 0x27#7 [0x08#8], .delay 2000000, .delay 1000000000] ++
  nibbleTransfer c true 0x30#8 ++ [.delay 4500000] ++
  nibbleTransfer c true 0x30#8 ++ [.delay 4500000] ++
  nibbleTransfer c true 0x30#8 ++ [.delay 150000] ++
  nibbleTransfer c true 0x20#8 ++
  byteTransfer c true false fs ++
  byteTransfer c true false (c.cmdDisplayControl ||| c.flagDisplayOn) ++
  byteTransfer c true false c.cmdClearDisplay ++ [.delay 2000000] ++
  byteTransfer c true false (c.cmdEntryModeSet ||| c.flagEntryLeft) ++
  byteTransfer c true false c.cmdReturnHome ++ [.delay 2000000]

/-- `functionFlags` after `CONFIGURE` (10_state R34, 41_configure_init R79). -/
def configuredFunctionFlags (c : Config) (lines fontVariant : Byte) : Byte :=
  (if 1 < lines.toNat then c.flag2Line else 0x00#8) |||
    (if fontVariant ≠ 0#8 ∧ lines.toNat = 1 then c.flag5x10 else 0x00#8)

/-- The state after `CONFIGURE` (10_state R34, 41_configure_init R89). -/
def configured (s : State) (columns lines fontVariant : Byte) : State :=
  { s with
    phase := .ready
    lineCount := lines
    columnCount := columns
    backlightState := true
    functionFlags := configuredFunctionFlags s.config lines fontVariant
    controlFlags := s.config.flagDisplayOn
    modeFlags := s.config.flagEntryLeft
    trace := s.trace ++
      handshakeEvents s.config (s.config.cmdFunctionSet ||| configuredFunctionFlags s.config lines fontVariant)
    xlatch := ((s.config.cmdReturnHome <<< 4) &&& 0xF0#8) ||| 0x08#8 }

/-- The row offsets in the order of rows 0 to 3 (42_display_commands R94). -/
def rowOffsets : List Byte := [0x00#8, 0x40#8, 0x14#8, 0x54#8]

/-- The bit each flag operation moves with the default masks, and the value it gives it (10_state R20, R21). -/
def flagBitOf : Instr → Option (Nat × Bool)
  | .displayOn => some (2, true)
  | .displayOff => some (2, false)
  | .cursorOn => some (1, true)
  | .cursorOff => some (1, false)
  | .blinkOn => some (0, true)
  | .blinkOff => some (0, false)
  | .leftToRight => some (1, true)
  | .rightToLeft => some (1, false)
  | .autoscrollOn => some (0, true)
  | .autoscrollOff => some (0, false)
  | _ => none

/-- The events a step has added to the trace. -/
def added (s t : State) : List Event := t.trace.drop s.trace.length

/-- The six operations that write `controlFlags` (10_state R20), `CONFIGURE` apart. -/
def isControlOp : Instr → Bool
  | .displayOn | .displayOff | .cursorOn | .cursorOff | .blinkOn | .blinkOff => true
  | _ => false

/-- The four operations that write `modeFlags` (R21), `CONFIGURE` apart. -/
def isModeOp : Instr → Bool
  | .leftToRight | .rightToLeft | .autoscrollOn | .autoscrollOff => true
  | _ => false

/-- The two operations that write `backlightState` (R24), `CONFIGURE` apart. -/
def isBacklightOp : Instr → Bool
  | .backlightOn | .backlightOff => true
  | _ => false

/-- `CONFIGURE`. -/
def isConfigure : Instr → Bool
  | .configure _ _ _ => true
  | _ => false

/-- The refusal 60_exceptions R116 names for a host operation, the checks in the order of R118; none where the operation
runs. That the internal operations and emitted bytes are never refused is the model's choice (log entry 9). -/
def refusalOf (i : Instr) (s : State) : Option Refusal :=
  if i.isHost = false then none
  else
    match i with
    | .configure _ lines _ =>
      if s.phase = .ready then some .configureTwice
      else if 1 ≤ lines.toNat ∧ lines.toNat ≤ 4 then none else some .linesOutOfRange
    | .createChar _ rows =>
      if s.phase = .unconfigured then some .notConfigured
      else if rows.length = 8 then none else some .rowsLength
    | .print buffer size =>
      if s.phase = .unconfigured then some .notConfigured
      else if size = 0 then some .printSizeZero
      else if buffer.length < size - 1 then some .printBufferShort else none
    | _ => if s.phase = .unconfigured then some .notConfigured else none

/-- A legal event: a delay, or a bus write of one byte to address `0x27` with the read/write bit 0 (20_memory R37, R49). -/
def eventLegal : Event → Bool
  | .delay _ => true
  | .busWrite a [b] => a == 0x27#7 && !b.getLsbD 1
  | .busWrite _ _ => false

/-- The bus bytes are whole enable pulses: each nibble transfer three bytes that differ in the enable bit alone, which
reads 0, 1, 0 (30_encoding R69, 70 R133 H-d). -/
def wholePulses : List Byte → Bool
  | [] => true
  | a :: b :: c :: rest => !a.getLsbD 2 && b == (a ||| 0x04#8) && c == a && wholePulses rest
  | _ => false

/-- The command bytes the block emits, with the default codes (30_encoding R70). -/
def isEmittedCommand (v : Byte) : Bool :=
  v == 0x01#8 || v == 0x02#8 || (0x04#8 ≤ v && v ≤ 0x07#8) || (0x08#8 ≤ v && v ≤ 0x0F#8) || v == 0x18#8 ||
    v == 0x1C#8 || v == 0x20#8 || v == 0x24#8 || v == 0x28#8 || (v &&& 0xC7#8 == 0x40#8) || 0x80#8 ≤ v

/-- The minimum duration of one byte with the default parameters (70 R135, `SEND_BYTE`). -/
def byteNs : Nat := 12076000

/-- The minimum duration of `CONFIGURE` with the default parameters (70 R135, 41_configure_init R90). -/
def configureNs : Nat := 1149682000

/-- The minimum duration of a nibble transfer with the default parameters (70 R135, `WRITE_NIBBLE`). -/
def nibbleNs : Nat := 6038000

/-- The settle of `CLEAR`, `HOME` and of an expander write, 2 ms (70 R132). -/
def settleNs : Nat := 2000000

/-- The bus writes of an operation (70 R135's table; 0, unused, for the emitted rows, which it does not list). -/
def busWritesOf : Instr → Nat
  | .configure _ _ _ => 43
  | .clear | .home => 6
  | .setCursor _ _ | .displayOn | .displayOff | .cursorOn | .cursorOff | .blinkOn | .blinkOff | .scrollLeft
  | .scrollRight | .leftToRight | .rightToLeft | .autoscrollOn | .autoscrollOff => 6
  | .createChar _ _ => 54
  | .backlightOn | .backlightOff => 0
  | .print _ size => 6 * (size - 1)
  | .sendByte _ _ => 6
  | .writeNibble _ => 3
  | .expanderWrite _ => 1
  | .clearDisplay | .returnHome | .entryModeSet _ _ | .displayControl _ _ _ | .cursorShift _ _ | .functionSet _ _ _
  | .setCgramAddr _ | .setDdramAddr _ | .initNibble8Bit | .initNibble4Bit | .dataByte _ | .nibbleByte _ _
  | .expanderByte _ _ _ _ => 0

/-- The minimum duration of an operation with the default parameters (70 R135's table; 0, unused, for the emitted rows):
`CREATE_CHAR`'s 108 684 000 ns is nine bytes, `CLEAR`'s and `HOME`'s 14 076 000 ns a byte and its settle. -/
def durationOf : Instr → Nat
  | .configure _ _ _ => configureNs
  | .clear | .home => byteNs + settleNs
  | .setCursor _ _ | .displayOn | .displayOff | .cursorOn | .cursorOff | .blinkOn | .blinkOff | .scrollLeft
  | .scrollRight | .leftToRight | .rightToLeft | .autoscrollOn | .autoscrollOff => byteNs
  | .createChar _ _ => 9 * byteNs
  | .backlightOn | .backlightOff => 0
  | .print _ size => byteNs * (size - 1)
  | .sendByte _ _ => byteNs
  | .writeNibble _ => nibbleNs
  | .expanderWrite _ => settleNs
  | .clearDisplay | .returnHome | .entryModeSet _ _ | .displayControl _ _ _ | .cursorShift _ _ | .functionSet _ _ _
  | .setCgramAddr _ | .setDdramAddr _ | .initNibble8Bit | .initNibble4Bit | .dataByte _ | .nibbleByte _ _
  | .expanderByte _ _ _ _ => 0

/-- The equivalence of traces in the words of 70_reset_and_hazards R131: generated by merging two adjacent delays into
their sum; splitting is the same step backwards. -/
inductive TraceEquivalent : List Event → List Event → Prop where
  /-- Merge two adjacent delays. -/
  | merge (before after : List Event) (d e : Nat) :
      TraceEquivalent (before ++ .delay d :: .delay e :: after) (before ++ .delay (d + e) :: after)
  /-- No difference. -/
  | refl (a : List Event) : TraceEquivalent a a
  /-- Backwards. -/
  | symm {a b : List Event} : TraceEquivalent a b → TraceEquivalent b a
  /-- One difference after another. -/
  | trans {a b c : List Event} : TraceEquivalent a b → TraceEquivalent b c → TraceEquivalent a c

/-- The second trace is the first with delays replaced by longer ones, in the words of R131. -/
inductive Lengthened : List Event → List Event → Prop where
  /-- Nothing but merging and splitting. -/
  | equivalent {a b : List Event} : TraceEquivalent a b → Lengthened a b
  /-- Replace one delay by a longer one. -/
  | longer (before after : List Event) (d e : Nat) : d ≤ e →
      Lengthened (before ++ .delay d :: after) (before ++ .delay e :: after)
  /-- One replacement after another. -/
  | trans {a b c : List Event} : Lengthened a b → Lengthened b c → Lengthened a c

/-- The same parameters with other enable-pulse holds (00_scope R12, decision D8). -/
def withHolds (c : Config) (high low : Nat) : Config := { c with tEnHigh := high, tEnLow := low }

/-- The registers hold legal values once the block is configured (10_state R19 to R22, R34). -/
structure RegistersLegal (s : State) : Prop where
  /-- R22. -/
  lineCount : 1 ≤ s.lineCount.toNat ∧ s.lineCount.toNat ≤ 4
  /-- R19: two-line for two lines and more; with one line, 5x8 or 5x10. -/
  functionFlags : s.functionFlags = (if 1 < s.lineCount.toNat then s.config.flag2Line else 0#8) ∨
    (s.lineCount.toNat = 1 ∧ s.functionFlags = s.config.flag5x10)
  /-- R19: "interface width, always 0, meaning 4-bit". -/
  fourBit : s.functionFlags &&& s.config.flag8Bit = 0#8
  /-- R20: "all other bits 0". -/
  controlFlags :
    s.controlFlags &&& ~~~(s.config.flagDisplayOn ||| s.config.flagCursorOn ||| s.config.flagBlinkOn) = 0#8
  /-- R21: "all other bits 0". -/
  modeFlags : s.modeFlags &&& ~~~(s.config.flagEntryLeft ||| s.config.flagShiftIncrement) = 0#8

/-- A legal state: lawful parameters (00_scope R13); legal registers once configured; nothing emitted before; every
event of the trace legal. -/
structure Legal (s : State) : Prop where
  /-- 00_scope R13, with the model's own constraint of log entry 30. -/
  config : configLawful s.config = true
  /-- 10_state R19 to R22. -/
  registers : s.phase = .ready → RegistersLegal s
  /-- 10_state R34, 70 R128: the trace is empty before `CONFIGURE`. -/
  silent : s.phase = .unconfigured → s.trace = []
  /-- 20_memory R37, R49. -/
  events : s.trace.all eventLegal = true

/-- No flag register is dirty: with the default codes and once configured, what the trace sent last for each flag
register is what the register holds (10_state R30), the trace being the four initialization nibbles and then whole
bytes only (30_encoding R64, 20_memory R46). -/
structure Flushed (s : State) : Prop where
  /-- The default codes. -/
  config : s.config = standardConfig
  /-- Nothing is sent before `CONFIGURE`. -/
  silent : s.phase = .unconfigured → s.trace = []
  /-- The enable line is low between operations. -/
  enableLow : s.phase = .ready → ((busBytes s.trace).getLastD 0x04#8).getLsbD 2 = false
  /-- The initialization nibbles come first. -/
  handshake : s.phase = .ready →
    (latched (busBytes s.trace)).take 4 = [(false, 0x3#4), (false, 0x3#4), (false, 0x3#4), (false, 0x2#4)]
  /-- What follows them pairs up. -/
  paired : s.phase = .ready → (latched (busBytes s.trace)).length % 2 = 0
  /-- R30, `controlFlags`. -/
  control : s.phase = .ready →
    lastCommand 0xF8#8 0x08#8 (sentCommands (sentBytes s.trace)) = some (0x08#8 ||| s.controlFlags)
  /-- R30, `modeFlags`. -/
  mode : s.phase = .ready →
    lastCommand 0xFC#8 0x04#8 (sentCommands (sentBytes s.trace)) = some (0x04#8 ||| s.modeFlags)
  /-- R30, the one `FUNCTION_SET` byte sent by the two-nibble transport. -/
  function : s.phase = .ready →
    (sentCommands (sentBytes s.trace)).filter (fun v => v &&& 0xE0#8 == 0x20#8) = [0x20#8 ||| s.functionFlags]
  /-- The flag registers hold flags alone (10_state R19 to R21). -/
  flags : s.phase = .ready → s.controlFlags ≤ 0x07#8 ∧ s.modeFlags ≤ 0x03#8 ∧
    (s.functionFlags = 0x00#8 ∨ s.functionFlags = 0x04#8 ∨ s.functionFlags = 0x08#8)

end Sys2Proof.Safety
end

