-- ==== Sys2Proof/Certificates/Slice0/Obligations.lean ====
section
/-! DEFINITION. Certificates/Slice0/Obligations.lean: the statements about the block, each from the numbered rules its
docstring names. -/

open Sys2Proof Sys2Proof.Machine Sys2Proof.Safety

/-- 10_state R34, 70 R128: after power-on `phase` is unconfigured and the trace is empty. That the parameters are the
defaults (log entries 5, 6) and that the host has presented nothing (log entry 1) is the model's choice. -/
def Obligations.PowerOnIsUnconfiguredAndSilent : Prop :=
  State.reset.phase = .unconfigured ∧ State.reset.trace = [] ∧ State.reset.config = standardConfig ∧
    State.reset.program = []

/-- 00_scope R9, 10_state R28: a step runs, whole, the operation the host presents next, in the state in which that
request is no longer waiting. -/
def Obligations.StepRunsTheDecodedOperation : Prop :=
  ∀ (s : State) (r : Request) (rest : List Request) (i : Instr),
    s.program = r :: rest → decodeOpSelect r = .ok i → step s = exec i { s with program := rest }

/-- 70 R130: when the host has presented everything the run is over. That a step then changes nothing is the model's
choice (log entry 1). -/
def Obligations.StepWaitsForTheHost : Prop := ∀ s : State, s.program = [] → step s = .next s

/-- 30_encoding R66, 60_exceptions R116 (7): codes `0x14` to `0xFF` select nothing and are refused. -/
def Obligations.UnknownOpSelectIsRefused : Prop :=
  ∀ (s : State) (r : Request) (rest : List Request),
    s.program = r :: rest → 0x14 ≤ r.code.toNat → step s = .refused .badOpSelect

/-- 30_encoding R65, 60_exceptions R121: the command side reads the twenty host operations and no other, and every one
of them can be presented, its operands in the lanes of the model's choice (DESIGN CHOICE, log entry 7). -/
def Obligations.HostPresentsExactlyTheTwenty : Prop :=
  (∀ (r : Request) (i : Instr), decodeOpSelect r = .ok i → i.isHost = true) ∧
    ∀ i : Instr, i.isHost = true → decodeOpSelect (encode i) = .ok i

/-- 30_encoding R57 to R61, R65: reading back what the encoder writes gives the instruction, for every well-formed
instruction of all 36 rows and every operand value. Which lanes carry the operands that stand beside a word is the
model's choice (DESIGN CHOICE, log entry 7). -/
def Obligations.DecodeOfEncodeIsIdentity : Prop :=
  ∀ i : Instr, i.wellFormed = true → decodeAs i.format (encode i) = .ok i

/-- 30_encoding R57 to R61, R66: no two words of one format read as the same instruction: a word that decodes is the
word of what it decodes to. -/
def Obligations.EncodeOfDecodeIsIdentity : Prop :=
  (∀ (f : Format) (b : Byte) (i : Instr), f ≠ .opsel8 → decodeAs f (Request.plain b) = .ok i →
    i.format = f ∧ encode i = Request.plain b) ∧
  ∀ (r : Request) (i : Instr), decodeOpSelect r = .ok i → i.format = .opsel8 ∧ (encode i).code = r.code

/-- 30_encoding R57, R58, R59, R65, 41_configure_init R82: nine words by their pattern: three op-select codes, three
command bytes, a literal, a nibble byte and an expander byte; a data byte and the operands of the three internal
operations have no word here. Which lane of a request carries which operand of the three op-select words is the model's
choice (DESIGN CHOICE, log entry 7). -/
def Obligations.WordsOfTheTableDecode : Prop :=
  decodeOpSelect ⟨0x00#8, 16#8, 2#8, 0#8, [], 0⟩ = .ok (.configure 16#8 2#8 0#8) ∧
  decodeOpSelect ⟨0x03#8, 5#8, 1#8, 0#8, [], 0⟩ = .ok (.setCursor 5#8 1#8) ∧
  decodeOpSelect ⟨0x13#8, 0#8, 0#8, 0#8, [0x48#8, 0x49#8, 0#8], 3⟩ = .ok (.print [0x48#8, 0x49#8, 0#8] 3) ∧
  decodeAs .cmd8 (Request.plain 0b00001110#8) = .ok (.displayControl true true false) ∧
  decodeAs .cmd8 (Request.plain 0b00101000#8) = .ok (.functionSet false true false) ∧
  decodeAs .cmd8 (Request.plain 0b11000101#8) = .ok (.setDdramAddr 0b1000101#7) ∧
  decodeAs .literal (Request.plain 0b00110000#8) = .ok .initNibble8Bit ∧
  decodeAs .nb8 (Request.plain 0b01000001#8) = .ok (.nibbleByte 0x4#4 true) ∧
  decodeAs .xb8 (Request.plain 0b01001101#8) = .ok (.expanderByte 0x4#4 true true true)

/-- 40_transport R73: one bus write of the byte with the backlight bit merged in, then 2 ms; the merge can set bit 3 and
never clears it. -/
def Obligations.ExpanderWriteEmitsOneBusByte : Prop :=
  ∀ (b : Byte) (s : State),
    exec (.expanderWrite b) s = .next (sendingBusByte s b) ∧
      (b ||| lamp s.backlightState).getLsbD 3 = (b.getLsbD 3 || s.backlightState)

/-- 40_transport R74: the eight events of a nibble transfer, and no register written. -/
def Obligations.WriteNibbleStrobesEnable : Prop :=
  ∀ (nb : Byte) (s : State), exec (.writeNibble nb) s = .next (sendingNibble s nb)

/-- 40_transport R75: exactly two nibble transfers, high nibble first, by the formulas of the rule, and no register
written. -/
def Obligations.SendByteIsTwoNibbleTransfers : Prop :=
  ∀ (v : Byte) (isData : Bool) (s : State), exec (.sendByte v isData) s = .next (sending s isData v)

/-- 20_memory R56, 40_transport R76 (f): what `SEND_BYTE` latches, whatever the backlight and the parameters are. -/
def Obligations.SendByteLatchesHighThenLow : Prop :=
  ∀ (v : Byte) (isData : Bool) (s t : State), exec (.sendByte v isData) s = .next t →
    latched (busBytes (added s t)) = [(isData, v.extractLsb' 4 4), (isData, v.extractLsb' 0 4)]

/-- 40_transport R76 (e): what a well-formed nibble byte latches. -/
def Obligations.WriteNibbleLatchesItsNibble : Prop :=
  ∀ (nb : Byte) (s t : State), nb &&& 0x0E#8 = 0#8 → exec (.writeNibble nb) s = .next t →
    latched (busBytes (added s t)) = [(nb.getLsbD 0, nb.extractLsb' 4 4)]

/-- 40_transport R76 (a), (c), (d), (h): six bus bytes, bit 1 clear and bit 3 the backlight in each, and the value to be
read back from the third and the sixth. -/
def Obligations.SentByteIsRecoverable : Prop :=
  ∀ (v : Byte) (isData : Bool) (s t : State), exec (.sendByte v isData) s = .next t →
    ∃ b1 b2 b3 b4 b5 b6 : Byte, busBytes (added s t) = [b1, b2, b3, b4, b5, b6] ∧
      (∀ b ∈ [b1, b2, b3, b4, b5, b6], b.getLsbD 1 = false ∧ b.getLsbD 3 = s.backlightState) ∧
      v = (b3.extractLsb' 4 4 ++ b6.extractLsb' 4 4 : BitVec 8)

/-- 40_transport R76 (f): no falling edge arises at a seam whose first side ends with the enable bit clear. -/
def Obligations.LatchedOfConcatenation : Prop :=
  ∀ a b : List Byte, (a.getLastD 0#8).getLsbD 2 = false → latched (a ++ b) = latched a ++ latched b

/-- 30_encoding R57 to R62, 41_configure_init R82, R83: with the default codes, each emitted row of the table sends the
very word its encoding gives: a command byte to the instruction register, a data byte to the data register, a nibble
byte or a literal by one nibble transfer, an expander byte by one bus write. That these rows are operations at all is
the model's choice (log entries 9, 10). -/
def Obligations.EmittedRowsSendTheirWord : Prop :=
  ∀ (i : Instr) (s : State), s.config = standardConfig →
    (i.format = .cmd8 → exec i s = .next (sending s false (encode i).code)) ∧
    (i.format = .data8 → exec i s = .next (sending s true (encode i).code)) ∧
    (i.format = .literal ∨ i.format = .nb8 → exec i s = .next (sendingNibble s (encode i).code)) ∧
    (i.format = .xb8 → exec i s = .next (sendingBusByte s (encode i).code))

/-- 30_encoding R59, R62: whatever the parameters are, each command row sends its code OR-ed with the masks of its
fields. That these rows are operations is the model's choice (log entry 9). -/
def Obligations.CommandRowsSendCodeAndFlags : Prop :=
  ∀ s : State,
    exec .clearDisplay s = .next (sending s false s.config.cmdClearDisplay) ∧
    exec .returnHome s = .next (sending s false s.config.cmdReturnHome) ∧
    (∀ i sh : Bool, exec (.entryModeSet i sh) s = .next (sending s false (s.config.cmdEntryModeSet |||
      ((if i then s.config.flagEntryLeft else 0#8) ||| (if sh then s.config.flagShiftIncrement else 0#8))))) ∧
    (∀ d c b : Bool, exec (.displayControl d c b) s = .next (sending s false (s.config.cmdDisplayControl |||
      ((if d then s.config.flagDisplayOn else 0#8) ||| (if c then s.config.flagCursorOn else 0#8) |||
        (if b then s.config.flagBlinkOn else 0#8))))) ∧
    (∀ m r : Bool, exec (.cursorShift m r) s = .next (sending s false (s.config.cmdCursorShift |||
      (if m then s.config.flagDisplayMove else 0#8) ||| (if r then s.config.flagMoveRight else 0#8)))) ∧
    (∀ w n f : Bool, exec (.functionSet w n f) s = .next (sending s false (s.config.cmdFunctionSet |||
      ((if w then s.config.flag8Bit else 0#8) ||| (if n then s.config.flag2Line else 0#8) |||
        (if f then s.config.flag5x10 else 0#8))))) ∧
    (∀ l : BitVec 3, exec (.setCgramAddr l) s = .next (sending s false (0b01#2 ++ l ++ 0#3 : BitVec 8))) ∧
    (∀ a : BitVec 7, exec (.setDdramAddr a) s = .next (sending s false (s.config.cmdSetDdramAddr ||| a.setWidth 8)))

/-- 30_encoding R57, R58, R61, 41_configure_init R82, R83: the other emitted rows, field by field, whatever the
parameters are. That these rows are operations is the model's choice (log entries 9, 10). -/
def Obligations.DataNibbleAndExpanderRowsSendTheirFields : Prop :=
  ∀ s : State,
    (∀ v : Byte, exec (.dataByte v) s = .next (sending s true v)) ∧
    exec .initNibble8Bit s = .next (sendingNibble s 0x30#8) ∧
    exec .initNibble4Bit s = .next (sendingNibble s 0x20#8) ∧
    (∀ (d : Nibble) (rs : Bool),
      exec (.nibbleByte d rs) s = .next (sendingNibble s (d ++ 0#3 ++ BitVec.ofBool rs : BitVec 8))) ∧
    (∀ (d : Nibble) (b e rs : Bool), exec (.expanderByte d b e rs) s =
      .next (sendingBusByte s (d ++ BitVec.ofBool b ++ BitVec.ofBool e ++ 0#1 ++ BitVec.ofBool rs : BitVec 8)))

/-- 41_configure_init R78 to R89, 10_state R34, 60_exceptions R118: `CONFIGURE` before any other `CONFIGURE`, with one to
four lines, runs the nine steps in order and leaves the registers of R34; a second one is refused whatever its operands,
and a first one with `lines` outside 1 to 4. -/
def Obligations.ConfigureRunsTheHandshake : Prop :=
  ∀ (columns lines font : Byte) (s : State),
    (s.phase = .unconfigured → 1 ≤ lines.toNat → lines.toNat ≤ 4 →
      exec (.configure columns lines font) s = .next (configured s columns lines font)) ∧
    (s.phase = .ready → exec (.configure columns lines font) s = .refused .configureTwice) ∧
    (s.phase = .unconfigured → lines.toNat < 1 ∨ 4 < lines.toNat →
      exec (.configure columns lines font) s = .refused .linesOutOfRange)

/-- 41_configure_init R89: the 43 bus bytes of every `CONFIGURE`, with the default codes; the six of the function-set
command alone depend on the operands. -/
def Obligations.ConfigureBusBytes : Prop :=
  ∀ (columns lines font : Byte) (s t : State), s.config = standardConfig →
    exec (.configure columns lines font) s = .next t →
    busBytes (added s t) =
      [0x08#8, 0x38#8, 0x3C#8, 0x38#8, 0x38#8, 0x3C#8, 0x38#8, 0x38#8, 0x3C#8, 0x38#8, 0x28#8, 0x2C#8, 0x28#8,
        0x28#8, 0x2C#8, 0x28#8] ++
      (if 1 < lines.toNat then [0x88#8, 0x8C#8, 0x88#8]
        else if font = 0#8 then [0x08#8, 0x0C#8, 0x08#8] else [0x48#8, 0x4C#8, 0x48#8]) ++
      [0x08#8, 0x0C#8, 0x08#8, 0xC8#8, 0xCC#8, 0xC8#8, 0x08#8, 0x0C#8, 0x08#8, 0x18#8, 0x1C#8, 0x18#8,
        0x08#8, 0x0C#8, 0x08#8, 0x68#8, 0x6C#8, 0x68#8, 0x08#8, 0x0C#8, 0x08#8, 0x28#8, 0x2C#8, 0x28#8]

/-- 41_configure_init R89: the order of the initialization as the controller's latch sees it, with the default codes:
three nibbles `0x3`, one `0x2`, then FUNCTION_SET, DISPLAY_CONTROL, CLEAR_DISPLAY, ENTRY_MODE_SET, RETURN_HOME. -/
def Obligations.ConfigureLatchesTheHandshakeInOrder : Prop :=
  ∀ (columns lines font : Byte) (s t : State), s.config = standardConfig → s.trace = [] →
    exec (.configure columns lines font) s = .next t →
    (latched (busBytes t.trace)).take 4 = [(false, 0x3#4), (false, 0x3#4), (false, 0x3#4), (false, 0x2#4)] ∧
    sentBytes t.trace =
      [(false, if 1 < lines.toNat then 0x28#8 else if font = 0#8 then 0x20#8 else 0x24#8),
        (false, 0x0C#8), (false, 0x01#8), (false, 0x06#8), (false, 0x02#8)]

/-- 41_configure_init R89, corner cases: what the events of `CONFIGURE` depend on. `columns` is read by nothing, `lines`
only as one or more than one, and `fontVariant` only as zero or not, and only with one line. -/
def Obligations.ConfigureTraceReadsLineClassAndOneLineFont : Prop :=
  ∀ (c1 l1 f1 c2 l2 f2 : Byte) (s t1 t2 : State),
    exec (.configure c1 l1 f1) s = .next t1 → exec (.configure c2 l2 f2) s = .next t2 →
    ((1 < l1.toNat ∧ 1 < l2.toNat) ∨ (l1 = 1#8 ∧ l2 = 1#8 ∧ (f1 = 0#8 ↔ f2 = 0#8))) →
    t1.trace = t2.trace

/-- 42_display_commands R92, R93: `CLEAR` and `HOME` send their command and wait 2 ms more; no register changes. -/
def Obligations.ClearAndHomeSendAndSettle : Prop :=
  ∀ s : State, s.phase = .ready →
    exec .clear s = .next (delaying (sending s false s.config.cmdClearDisplay) 2000000) ∧
    exec .home s = .next (delaying (sending s false s.config.cmdReturnHome) 2000000)

/-- 42_display_commands R94: `SET_CURSOR` clamps the row to `lineCount - 1`, adds the offset of that row to the column
modulo 256, and sends the sum OR-ed into the code; no register changes. -/
def Obligations.SetCursorSendsTheClampedAddress : Prop :=
  ∀ (col row : Byte) (s : State), s.phase = .ready → 1 ≤ s.lineCount.toNat → s.lineCount.toNat ≤ 4 →
    exec (.setCursor col row) s = .next (sending s false (s.config.cmdSetDdramAddr |||
      (col + rowOffsets.getD (min row.toNat (s.lineCount.toNat - 1)) 0#8)))

/-- 10_state R32, 42_display_commands R94 (corner cases): a row at or past the line count behaves as the last row, in
every state; and on a configured block it raises no error: the operation answers a next state. -/
def Obligations.SetCursorRowSaturates : Prop :=
  ∀ (col row : Byte) (s : State), 1 ≤ s.lineCount.toNat → s.lineCount.toNat ≤ row.toNat →
    exec (.setCursor col row) s = exec (.setCursor col (s.lineCount - 1#8)) s ∧
    (s.phase = .ready → s.lineCount.toNat ≤ 4 → ∃ t : State,
      exec (.setCursor col row) s = .next t ∧ exec (.setCursor col (s.lineCount - 1#8)) s = .next t)

/-- 30_encoding R63 (e), R59: with lawful parameters the command byte of `SET_CURSOR` has bit 7 set and the sum of column
and offset modulo 128 below it. -/
def Obligations.SetCursorAddressIsSevenBits : Prop :=
  ∀ (col row : Byte) (s : State), s.phase = .ready → configLawful s.config = true →
    1 ≤ s.lineCount.toNat → s.lineCount.toNat ≤ 4 →
    ∃ v : Byte, exec (.setCursor col row) s = .next (sending s false v) ∧
      v.toNat = 128 + (col.toNat + ([0, 64, 20, 84] : List Nat).getD (min row.toNat (s.lineCount.toNat - 1)) 0) % 128

/-- 42_display_commands R95 to R101: each control-flag operation sets or clears its mask in `controlFlags` and sends the
new register whole, whether or not it changed. -/
def Obligations.ControlFlagOperationsWriteAndFlush : Prop :=
  ∀ s : State, s.phase = .ready →
    let update := fun v : Byte =>
      sending { s with controlFlags := v } false (s.config.cmdDisplayControl ||| v)
    exec .displayOn s = .next (update (s.controlFlags ||| s.config.flagDisplayOn)) ∧
    exec .displayOff s = .next (update (s.controlFlags &&& ~~~s.config.flagDisplayOn)) ∧
    exec .cursorOn s = .next (update (s.controlFlags ||| s.config.flagCursorOn)) ∧
    exec .cursorOff s = .next (update (s.controlFlags &&& ~~~s.config.flagCursorOn)) ∧
    exec .blinkOn s = .next (update (s.controlFlags ||| s.config.flagBlinkOn)) ∧
    exec .blinkOff s = .next (update (s.controlFlags &&& ~~~s.config.flagBlinkOn))

/-- 42_display_commands R104 to R108: each mode-flag operation sets or clears its mask in `modeFlags` and sends the new
register whole, whether or not it changed. -/
def Obligations.ModeFlagOperationsWriteAndFlush : Prop :=
  ∀ s : State, s.phase = .ready →
    let update := fun v : Byte => sending { s with modeFlags := v } false (s.config.cmdEntryModeSet ||| v)
    exec .leftToRight s = .next (update (s.modeFlags ||| s.config.flagEntryLeft)) ∧
    exec .rightToLeft s = .next (update (s.modeFlags &&& ~~~s.config.flagEntryLeft)) ∧
    exec .autoscrollOn s = .next (update (s.modeFlags ||| s.config.flagShiftIncrement)) ∧
    exec .autoscrollOff s = .next (update (s.modeFlags &&& ~~~s.config.flagShiftIncrement))

/-- 10_state R20, R21, 42_display_commands R95, R104: with the default masks a flag operation gives one bit of its
register its value and leaves every other bit. -/
def Obligations.FlagOperationsMoveOneBit : Prop :=
  ∀ (i : Instr) (s t : State) (bit : Nat) (on : Bool), s.config = standardConfig →
    exec i s = .next t → flagBitOf i = some (bit, on) →
    (isControlOp i = true → ∀ k : Nat,
      t.controlFlags.getLsbD k = if k = bit then on else s.controlFlags.getLsbD k) ∧
    (isModeOp i = true → ∀ k : Nat, t.modeFlags.getLsbD k = if k = bit then on else s.modeFlags.getLsbD k)

/-- 42_display_commands R102, R103: the two scrolls send their constant command; no register changes. -/
def Obligations.ScrollsSendTheShiftCommand : Prop :=
  ∀ s : State, s.phase = .ready →
    exec .scrollLeft s = .next (sending s false (s.config.cmdCursorShift ||| s.config.flagDisplayMove)) ∧
    exec .scrollRight s =
      .next (sending s false (s.config.cmdCursorShift ||| s.config.flagDisplayMove ||| s.config.flagMoveRight))

/-- 43 R109: `CREATE_CHAR` sends the CGRAM address of the slot modulo 8, and then its eight rows, raw and in order, when
`CGRAM_WRITE_ROWS`; no register changes; with other than eight rows it is refused. -/
def Obligations.CreateCharSendsAddressAndRows : Prop :=
  ∀ (slot : Byte) (rows : List Byte) (s : State), s.phase = .ready →
    let events := byteTransfer s.config s.backlightState false (0x40#8 ||| ((slot &&& 0x07#8) <<< 3)) ++
      (if s.config.cgramWriteRows then rows.flatMap (byteTransfer s.config s.backlightState true) else [])
    (rows.length = 8 → exec (.createChar slot rows) s = .next (emitting s events (lastBusByte s.xlatch events))) ∧
    (rows.length ≠ 8 → exec (.createChar slot rows) s = .refused .rowsLength)

/-- 43 R109, 30_encoding R63 (d): slots wrap modulo 8. -/
def Obligations.CreateCharSlotWraps : Prop :=
  ∀ (slot : Byte) (rows : List Byte) (s : State),
    exec (.createChar slot rows) s = exec (.createChar (BitVec.ofNat 8 (slot.toNat % 8)) rows) s

/-- 43 R110, R111: the backlight operations write `backlightState` and emit nothing. -/
def Obligations.BacklightOperationsEmitNothing : Prop :=
  ∀ s : State, s.phase = .ready →
    exec .backlightOn s = .next { s with backlightState := true } ∧
    exec .backlightOff s = .next { s with backlightState := false }

/-- 43 R112: `PRINT` sends the first `size - 1` bytes of its buffer to the data register, in order and by count alone; no
register changes; with `size = 0`, or fewer than `size - 1` bytes, it is refused. -/
def Obligations.PrintSendsTheCountedBytes : Prop :=
  ∀ (buffer : List Byte) (size : Nat) (s : State), s.phase = .ready →
    let events := (buffer.take (size - 1)).flatMap (byteTransfer s.config s.backlightState true)
    (1 ≤ size → size - 1 ≤ buffer.length →
      exec (.print buffer size) s = .next (emitting s events (lastBusByte s.xlatch events))) ∧
    (size = 0 → exec (.print buffer size) s = .refused .printSizeZero) ∧
    (1 ≤ size → buffer.length < size - 1 → exec (.print buffer size) s = .refused .printBufferShort)

/-- 43 R112, 20_memory R42: what `PRINT` does depends on no buffer slot from `size - 1` on. -/
def Obligations.PrintReadsOnlyTheCountedBytes : Prop :=
  ∀ (b1 b2 : List Byte) (size : Nat) (s : State), size - 1 ≤ b1.length → size - 1 ≤ b2.length →
    (∀ k : Nat, k < size - 1 → b1[k]? = b2[k]?) → exec (.print b1 size) s = exec (.print b2 size) s

/-- 42_display_commands R91: any host operation but `CONFIGURE` presented before it is refused. -/
def Obligations.NothingRunsBeforeConfigure : Prop :=
  ∀ (i : Instr) (s : State), i.isHost = true → isConfigure i = false → s.phase = .unconfigured →
    exec i s = .refused .notConfigured

/-- 60_exceptions R116, R118: an operation is refused for the reasons of R116 alone, in the order of R118, and otherwise
answers a next state. In a state no run reaches, whose line count is outside 1 to 4, `SET_CURSOR` is refused too (log
entry 23), so the line count of a configured block is assumed legal (StepKeepsStateLegal). That the internal operations
and the emitted rows are never refused, before `CONFIGURE` too, is the model's choice (log entry 9). -/
def Obligations.RefusalsAreExactlyTheListed : Prop :=
  ∀ (i : Instr) (s : State),
    (s.phase = .ready → 1 ≤ s.lineCount.toNat ∧ s.lineCount.toNat ≤ 4) →
    (∀ r : Refusal, refusalOf i s = some r → exec i s = .refused r) ∧
    (refusalOf i s = none → ∃ t : State, exec i s = .next t)

/-- 10_state R19 to R25, 30_encoding R65 ("Registers written"): which instruction may write which register. Everything
else stays; the phase never goes back; no instruction writes the parameters or what the host has still to present. -/
def Obligations.OnlyTheNamedOperationsWriteARegister : Prop :=
  ∀ (i : Instr) (s t : State), exec i s = .next t →
    t.config = s.config ∧ t.program = s.program ∧
    (isConfigure i = false → t.phase = s.phase ∧ t.functionFlags = s.functionFlags ∧
      t.lineCount = s.lineCount ∧ t.columnCount = s.columnCount) ∧
    (isConfigure i = false → isControlOp i = false → t.controlFlags = s.controlFlags) ∧
    (isConfigure i = false → isModeOp i = false → t.modeFlags = s.modeFlags) ∧
    (isConfigure i = false → isBacklightOp i = false → t.backlightState = s.backlightState) ∧
    (s.phase = .ready → t.phase = .ready)

/-- 20_memory R51, R52, 10_state R26: every instruction appends to the trace and changes nothing in it, and the ghost
holds the last bus byte. -/
def Obligations.TraceOnlyGrows : Prop :=
  ∀ (i : Instr) (s t : State), exec i s = .next t →
    t.trace = s.trace ++ added s t ∧ t.xlatch = lastBusByte s.xlatch (added s t)

/-- 20_memory R37, R49, 40_transport R76 (b), (c): every bus write of a host operation goes to `0x27` with one byte whose
read/write bit is 0. -/
def Obligations.HostOperationsEmitLegalEvents : Prop :=
  ∀ (i : Instr) (s t : State), i.isHost = true → exec i s = .next t → (added s t).all eventLegal = true

/-- 10_state R31, R24: bit 3 of every bus byte of a host operation is the backlight state; for `CONFIGURE`, which writes
the register before its first event, that is true. -/
def Obligations.BacklightBitInEveryBusByte : Prop :=
  ∀ (i : Instr) (s t : State), i.isHost = true → exec i s = .next t →
    ∀ b ∈ busBytes (added s t), b.getLsbD 3 = t.backlightState

/-- 30_encoding R69, 70 R133 (H-d): the bus bytes of a host operation are whole enable pulses, but for the lone expander
reset that begins `CONFIGURE`. -/
def Obligations.EnablePulsesAreWhole : Prop :=
  ∀ (i : Instr) (s t : State), i.isHost = true → exec i s = .next t →
    if isConfigure i then ∃ rest, busBytes (added s t) = 0x08#8 :: rest ∧ wholePulses rest = true
    else wholePulses (busBytes (added s t)) = true

/-- 30_encoding R70: with the default codes, a configured block with legal registers sends no command byte outside the
list of R70. -/
def Obligations.CommandBytesAreTheListed : Prop :=
  ∀ (i : Instr) (s t : State), s.config = standardConfig → s.phase = .ready → RegistersLegal s →
    i.isHost = true → exec i s = .next t →
    ∀ v ∈ sentCommands (pairNibbles (latched (busBytes (added s t)))), isEmittedCommand v = true

/-- 70 R135: the bus writes and the minimum duration of every operation of the table, with the default parameters, and
those of `CREATE_CHAR` when `CGRAM_WRITE_ROWS` is false. -/
def Obligations.OperationCosts : Prop :=
  ∀ (i : Instr) (s t : State), exec i s = .next t →
    (s.config = standardConfig →
      i.isHost = true ∨ i.format = .sendByte ∨ i.format = .writeNibble ∨ i.format = .expanderWrite →
      busWrites (added s t) = busWritesOf i ∧ minDuration (added s t) = durationOf i) ∧
    (s.config = { standardConfig with cgramWriteRows := false } →
      ∀ (slot : Byte) (rows : List Byte), i = .createChar slot rows →
      busWrites (added s t) = 6 ∧ minDuration (added s t) = byteNs)

/-- 00_scope R3, 10_state R26: no instruction reads the trace or the ghost: with others of either it answers the same
registers and adds the same events. -/
def Obligations.BlockNeverReadsItsOutput : Prop :=
  ∀ (i : Instr) (s t : State) (tr : List Event) (x : Byte), exec i s = .next t →
    exec i { s with trace := tr, xlatch := x } =
      .next { t with trace := tr ++ added s t, xlatch := lastBusByte x (added s t) }

/-- 10_state R23: nothing reads `columnCount`. -/
def Obligations.ColumnCountIsReadByNothing : Prop :=
  ∀ (i : Instr) (s t : State) (c : Byte), exec i s = .next t →
    exec i { s with columnCount := c } =
      .next { t with columnCount := if isConfigure i then t.columnCount else c }

/-- 42_display_commands R95, 30_encoding R59: with the default codes, a control-flag operation is the `DISPLAY_CONTROL`
row with the fields of the new register, the register being written first. That the row is an operation is the model's
choice (log entry 9). -/
def Obligations.ControlOperationsSendTheirTableRow : Prop :=
  ∀ (i : Instr) (s t : State), s.config = standardConfig → s.controlFlags ≤ 0x07#8 → isControlOp i = true →
    exec i s = .next t →
    exec (.displayControl (t.controlFlags.getLsbD 2) (t.controlFlags.getLsbD 1) (t.controlFlags.getLsbD 0))
      { s with controlFlags := t.controlFlags } = .next t

/-- 30_encoding R72: `CLEAR` is the row `CLEAR_DISPLAY` and the settle, `HOME` the row `RETURN_HOME` and the settle. That
the rows are operations, and that they have no settle of their own, is the model's choice (log entry 9). -/
def Obligations.ClearAndHomeAreTheirRowAndASettle : Prop :=
  ∀ s t u : State, s.phase = .ready → exec .clearDisplay s = .next t → exec .returnHome s = .next u →
    exec .clear s = .next (delaying t 2000000) ∧ exec .home s = .next (delaying u 2000000)

/-- 60_exceptions R113, R116, R122, 30_encoding R66, R68: on a legal state a waiting request is carried out whole, the
block being ready for the next one after it, exactly when the host keeps its duties: the code selects an operation, its
operands are ones the spec gives a meaning to, and `CONFIGURE` comes first and once. Every other request is refused, for
a reason of R116. -/
def Obligations.WaitingRequestCompletesExactlyWhenPermitted : Prop :=
  ∀ (s : State) (r : Request) (rest : List Request), Legal s → s.program = r :: rest →
    let permitted := ∃ i : Instr, decodeOpSelect r = .ok i ∧ i.wellFormed = true ∧
      (isConfigure i = true ↔ s.phase = .unconfigured)
    (permitted → ∃ t : State, step s = .next t ∧ t.phase = .ready ∧ t.program = rest) ∧
    (¬permitted → ∃ why : Refusal, step s = .refused why ∧ ∀ mnemonic : String, why ≠ .notModelled mnemonic)

/-- 70 R131: two traces have the same merged form exactly when they differ only by merging adjacent delays into their sum
and splitting one into parts; and `waitsAtLeast` holds exactly when, beside that, delays are replaced by longer ones. -/
def Obligations.TraceRelationsAreMergingSplittingAndLengthening : Prop :=
  ∀ a b : List Event, (TraceEquivalent a b ↔ mergeDelays a = mergeDelays b) ∧
    (Lengthened a b ↔ waitsAtLeast a b = true)

/-- 70 R131: equivalent traces have the same bus writes, latch the same, last at least the same time, are waited out
alike; and the block goes on from either in the same way, to equivalent traces again. -/
def Obligations.EquivalentTracesAreReadAlike : Prop :=
  ∀ a b : List Event, TraceEquivalent a b →
    busBytes a = busBytes b ∧ latched (busBytes a) = latched (busBytes b) ∧ busWrites a = busWrites b ∧
    minDuration a = minDuration b ∧ a.all eventLegal = b.all eventLegal ∧
    (∀ (c : Config) (owed : Nat) (x : Byte), waitsOut c owed x a = waitsOut c owed x b) ∧
    ∀ (i : Instr) (s t : State), s.trace = a → exec i s = .next t →
      ∃ u : State, exec i { s with trace := b } = .next u ∧ { u with trace := t.trace } = t ∧
        TraceEquivalent t.trace u.trace

/-- 70 R131: replacing delays by longer ones leaves every bus write and what is latched, makes nothing that is waited out
fall short, shortens no minimum duration, and may be done again and in parts: so what meets a requirement given as a list
of events (the handshake's, R133 H-a; a slow command with its settle, H-f) still meets it. -/
def Obligations.LongerDelaysBreakNoRequirement : Prop :=
  ∀ required actual : List Event, waitsAtLeast required actual = true →
    busBytes actual = busBytes required ∧ latched (busBytes actual) = latched (busBytes required) ∧
    busWrites actual = busWrites required ∧ actual.all eventLegal = required.all eventLegal ∧
    minDuration required ≤ minDuration actual ∧
    (∀ (c : Config) (owed : Nat) (x : Byte), waitsOut c owed x required = true → waitsOut c owed x actual = true) ∧
    (∀ further : List Event, waitsAtLeast actual further = true → waitsAtLeast required further = true) ∧
    ∀ next nextActual : List Event, waitsAtLeast next nextActual = true →
      waitsAtLeast (required ++ next) (actual ++ nextActual) = true

/-- 70 R132, R133 (H-c): a host operation waits out every bus write, `T_XW` and the holds of the enable bit, before the
next one and before it returns. The other delays of R132 stand in the event lists of `CONFIGURE`, `CLEAR` and `HOME`.
`before` is what the expander's lines hold when the operation begins. The spec leaves it unknown before the first bus
write (93 entry U14, 91 entry N14): for `CONFIGURE` it is any byte as long as `T_EN_LOW` is at most the settle of its first
write. That the enable line starts low otherwise is the model's choice (DESIGN CHOICE, log entry 31); for the operations
after `CONFIGURE` it is what StepKeepsFlagsFlushed keeps. -/
def Obligations.HostOperationsWaitOutEveryBusWrite : Prop :=
  ∀ (i : Instr) (s t : State) (before : Byte), i.isHost = true → exec i s = .next t →
    before.getLsbD 2 = false ∨ (isConfigure i = true ∧ s.config.tEnLow ≤ tResetSettle) →
    waitsOut s.config 0 before (added s t) = true

/-- 70 R131 ("lets no rule depend on their durations"): with longer enable-pulse holds every instruction does the same to
the registers, and its events are the same but for longer delays. -/
def Obligations.LongerHoldsOnlyLengthenDelays : Prop :=
  ∀ (i : Instr) (s t : State) (high low : Nat), s.config.tEnHigh ≤ high → s.config.tEnLow ≤ low →
    exec i s = .next t →
    ∃ u : State, exec i { s with config := withHolds s.config high low } = .next u ∧
      { u with config := t.config, trace := t.trace } = t ∧ waitsAtLeast (added s t) (added s u) = true

/-- 00_scope R13: the default parameters keep the constraints of R13, and the model's own beside them (log entry 30). -/
def Obligations.DefaultParametersAreLawful : Prop := configLawful standardConfig = true

/-- 10_state R19 to R22, R34, 20_memory R37, R49, 00_scope R13: power-on is a legal state. -/
def Obligations.PowerOnIsLegal : Prop := Legal State.reset

/-- 10_state R19 to R22, 20_memory R37, R49: from every legal state a step gives a legal state. -/
def Obligations.StepKeepsStateLegal : Prop := ∀ s t : State, Legal s → step s = .next t → Legal t

/-- 10_state R30: at power-on no flag register is dirty. -/
def Obligations.PowerOnIsFlushed : Prop := Flushed State.reset

/-- 10_state R30, 20_memory R46, 30_encoding R64: every step keeps the flag registers flushed: what the trace sent last
for each of them is what it holds, and what follows the four initialization nibbles is whole bytes. -/
def Obligations.StepKeepsFlagsFlushed : Prop := ∀ s t : State, Flushed s → step s = .next t → Flushed t
end

