-- ==== Sys2Proof/Laws/State.lean ====
section
/-! SUPPORT. Laws/State.lean: each field after each update of the state, so that no later proof unfolds an update. -/

namespace Sys2Proof.Machine

variable (s : State)

@[simp] theorem State.withControlFlags_config (v : Byte) : (s.withControlFlags v).config = s.config := rfl
@[simp] theorem State.withControlFlags_phase (v : Byte) : (s.withControlFlags v).phase = s.phase := rfl
@[simp] theorem State.withControlFlags_functionFlags (v : Byte) : (s.withControlFlags v).functionFlags = s.functionFlags := rfl
@[simp] theorem State.withControlFlags_controlFlags (v : Byte) : (s.withControlFlags v).controlFlags = v := rfl
@[simp] theorem State.withControlFlags_modeFlags (v : Byte) : (s.withControlFlags v).modeFlags = s.modeFlags := rfl
@[simp] theorem State.withControlFlags_lineCount (v : Byte) : (s.withControlFlags v).lineCount = s.lineCount := rfl
@[simp] theorem State.withControlFlags_columnCount (v : Byte) : (s.withControlFlags v).columnCount = s.columnCount := rfl
@[simp] theorem State.withControlFlags_backlightState (v : Byte) : (s.withControlFlags v).backlightState = s.backlightState := rfl
@[simp] theorem State.withControlFlags_xlatch (v : Byte) : (s.withControlFlags v).xlatch = s.xlatch := rfl
@[simp] theorem State.withControlFlags_trace (v : Byte) : (s.withControlFlags v).trace = s.trace := rfl
@[simp] theorem State.withControlFlags_program (v : Byte) : (s.withControlFlags v).program = s.program := rfl

@[simp] theorem State.withModeFlags_config (v : Byte) : (s.withModeFlags v).config = s.config := rfl
@[simp] theorem State.withModeFlags_phase (v : Byte) : (s.withModeFlags v).phase = s.phase := rfl
@[simp] theorem State.withModeFlags_functionFlags (v : Byte) : (s.withModeFlags v).functionFlags = s.functionFlags := rfl
@[simp] theorem State.withModeFlags_controlFlags (v : Byte) : (s.withModeFlags v).controlFlags = s.controlFlags := rfl
@[simp] theorem State.withModeFlags_modeFlags (v : Byte) : (s.withModeFlags v).modeFlags = v := rfl
@[simp] theorem State.withModeFlags_lineCount (v : Byte) : (s.withModeFlags v).lineCount = s.lineCount := rfl
@[simp] theorem State.withModeFlags_columnCount (v : Byte) : (s.withModeFlags v).columnCount = s.columnCount := rfl
@[simp] theorem State.withModeFlags_backlightState (v : Byte) : (s.withModeFlags v).backlightState = s.backlightState := rfl
@[simp] theorem State.withModeFlags_xlatch (v : Byte) : (s.withModeFlags v).xlatch = s.xlatch := rfl
@[simp] theorem State.withModeFlags_trace (v : Byte) : (s.withModeFlags v).trace = s.trace := rfl
@[simp] theorem State.withModeFlags_program (v : Byte) : (s.withModeFlags v).program = s.program := rfl

@[simp] theorem State.withBacklight_config (on : Bool) : (s.withBacklight on).config = s.config := rfl
@[simp] theorem State.withBacklight_phase (on : Bool) : (s.withBacklight on).phase = s.phase := rfl
@[simp] theorem State.withBacklight_functionFlags (on : Bool) : (s.withBacklight on).functionFlags = s.functionFlags := rfl
@[simp] theorem State.withBacklight_controlFlags (on : Bool) : (s.withBacklight on).controlFlags = s.controlFlags := rfl
@[simp] theorem State.withBacklight_modeFlags (on : Bool) : (s.withBacklight on).modeFlags = s.modeFlags := rfl
@[simp] theorem State.withBacklight_lineCount (on : Bool) : (s.withBacklight on).lineCount = s.lineCount := rfl
@[simp] theorem State.withBacklight_columnCount (on : Bool) : (s.withBacklight on).columnCount = s.columnCount := rfl
@[simp] theorem State.withBacklight_backlightState (on : Bool) : (s.withBacklight on).backlightState = on := rfl
@[simp] theorem State.withBacklight_xlatch (on : Bool) : (s.withBacklight on).xlatch = s.xlatch := rfl
@[simp] theorem State.withBacklight_trace (on : Bool) : (s.withBacklight on).trace = s.trace := rfl
@[simp] theorem State.withBacklight_program (on : Bool) : (s.withBacklight on).program = s.program := rfl

@[simp] theorem State.withPhase_config (p : Phase) : (s.withPhase p).config = s.config := rfl
@[simp] theorem State.withPhase_phase (p : Phase) : (s.withPhase p).phase = p := rfl
@[simp] theorem State.withPhase_functionFlags (p : Phase) : (s.withPhase p).functionFlags = s.functionFlags := rfl
@[simp] theorem State.withPhase_controlFlags (p : Phase) : (s.withPhase p).controlFlags = s.controlFlags := rfl
@[simp] theorem State.withPhase_modeFlags (p : Phase) : (s.withPhase p).modeFlags = s.modeFlags := rfl
@[simp] theorem State.withPhase_lineCount (p : Phase) : (s.withPhase p).lineCount = s.lineCount := rfl
@[simp] theorem State.withPhase_columnCount (p : Phase) : (s.withPhase p).columnCount = s.columnCount := rfl
@[simp] theorem State.withPhase_backlightState (p : Phase) : (s.withPhase p).backlightState = s.backlightState := rfl
@[simp] theorem State.withPhase_xlatch (p : Phase) : (s.withPhase p).xlatch = s.xlatch := rfl
@[simp] theorem State.withPhase_trace (p : Phase) : (s.withPhase p).trace = s.trace := rfl
@[simp] theorem State.withPhase_program (p : Phase) : (s.withPhase p).program = s.program := rfl

@[simp] theorem State.withGeometry_config (columns lines font : Byte) : (s.withGeometry columns lines font).config = s.config := rfl
@[simp] theorem State.withGeometry_phase (columns lines font : Byte) : (s.withGeometry columns lines font).phase = s.phase := rfl
@[simp] theorem State.withGeometry_functionFlags (columns lines font : Byte) : (s.withGeometry columns lines font).functionFlags = functionFlagsOf s.config lines font := rfl
@[simp] theorem State.withGeometry_controlFlags (columns lines font : Byte) : (s.withGeometry columns lines font).controlFlags = s.controlFlags := rfl
@[simp] theorem State.withGeometry_modeFlags (columns lines font : Byte) : (s.withGeometry columns lines font).modeFlags = s.modeFlags := rfl
@[simp] theorem State.withGeometry_lineCount (columns lines font : Byte) : (s.withGeometry columns lines font).lineCount = lines := rfl
@[simp] theorem State.withGeometry_columnCount (columns lines font : Byte) : (s.withGeometry columns lines font).columnCount = columns := rfl
@[simp] theorem State.withGeometry_backlightState (columns lines font : Byte) : (s.withGeometry columns lines font).backlightState = true := rfl
@[simp] theorem State.withGeometry_xlatch (columns lines font : Byte) : (s.withGeometry columns lines font).xlatch = s.xlatch := rfl
@[simp] theorem State.withGeometry_trace (columns lines font : Byte) : (s.withGeometry columns lines font).trace = s.trace := rfl
@[simp] theorem State.withGeometry_program (columns lines font : Byte) : (s.withGeometry columns lines font).program = s.program := rfl

@[simp] theorem State.withProgram_config (p : List Request) : (s.withProgram p).config = s.config := rfl
@[simp] theorem State.withProgram_phase (p : List Request) : (s.withProgram p).phase = s.phase := rfl
@[simp] theorem State.withProgram_functionFlags (p : List Request) : (s.withProgram p).functionFlags = s.functionFlags := rfl
@[simp] theorem State.withProgram_controlFlags (p : List Request) : (s.withProgram p).controlFlags = s.controlFlags := rfl
@[simp] theorem State.withProgram_modeFlags (p : List Request) : (s.withProgram p).modeFlags = s.modeFlags := rfl
@[simp] theorem State.withProgram_lineCount (p : List Request) : (s.withProgram p).lineCount = s.lineCount := rfl
@[simp] theorem State.withProgram_columnCount (p : List Request) : (s.withProgram p).columnCount = s.columnCount := rfl
@[simp] theorem State.withProgram_backlightState (p : List Request) : (s.withProgram p).backlightState = s.backlightState := rfl
@[simp] theorem State.withProgram_xlatch (p : List Request) : (s.withProgram p).xlatch = s.xlatch := rfl
@[simp] theorem State.withProgram_trace (p : List Request) : (s.withProgram p).trace = s.trace := rfl
@[simp] theorem State.withProgram_program (p : List Request) : (s.withProgram p).program = p := rfl

@[simp] theorem State.emit_config (es : List Event) : (s.emit es).config = s.config := rfl
@[simp] theorem State.emit_phase (es : List Event) : (s.emit es).phase = s.phase := rfl
@[simp] theorem State.emit_functionFlags (es : List Event) : (s.emit es).functionFlags = s.functionFlags := rfl
@[simp] theorem State.emit_controlFlags (es : List Event) : (s.emit es).controlFlags = s.controlFlags := rfl
@[simp] theorem State.emit_modeFlags (es : List Event) : (s.emit es).modeFlags = s.modeFlags := rfl
@[simp] theorem State.emit_lineCount (es : List Event) : (s.emit es).lineCount = s.lineCount := rfl
@[simp] theorem State.emit_columnCount (es : List Event) : (s.emit es).columnCount = s.columnCount := rfl
@[simp] theorem State.emit_backlightState (es : List Event) : (s.emit es).backlightState = s.backlightState := rfl
@[simp] theorem State.emit_xlatch (es : List Event) : (s.emit es).xlatch = lastBusByte s.xlatch es := rfl
@[simp] theorem State.emit_trace (es : List Event) : (s.emit es).trace = s.trace ++ es := rfl
@[simp] theorem State.emit_program (es : List Event) : (s.emit es).program = s.program := rfl

end Sys2Proof.Machine
end

