-- ==== Sys2Proof/Laws/Ops.lean ====
section
/-! SUPPORT. Laws/Ops.lean: what each shared operation does, said once. -/

namespace Sys2Proof.Machine

theorem lastBusByte_append (x : Byte) (a b : List Event) :
    lastBusByte x (a ++ b) = lastBusByte (lastBusByte x a) b := by
  induction a generalizing x with
  | nil => rfl
  | cons e rest ih => cases e <;> simp [lastBusByte, ih]

@[simp] theorem State.emit_nil (s : State) : s.emit [] = s := by simp [State.emit, lastBusByte]

theorem State.emit_emit (s : State) (a b : List Event) : (s.emit a).emit b = s.emit (a ++ b) := by
  simp [State.emit, lastBusByte_append]

/-- The phase gate lets an operation through in phase ready alone. -/
theorem whenReady_next_iff {s t : State} {k : Result} :
    whenReady s k = .next t ↔ s.phase = .ready ∧ k = .next t := by
  cases h : s.phase <;> simp [whenReady, h]

theorem whenReady_ready {s : State} (h : s.phase = .ready) (k : Result) : whenReady s k = k := by
  simp [whenReady, h]

theorem whenReady_unconfigured {s : State} (h : s.phase = .unconfigured) (k : Result) :
    whenReady s k = .refused .notConfigured := by simp [whenReady, h]

/-- The transport's event list for a nibble is the one 40_transport R74 writes out. -/
theorem writeNibbleEvents_eq (c : Config) (on : Bool) (nb : Byte) :
    writeNibbleEvents c on nb = Safety.nibbleTransfer c on nb := by
  cases on <;> rfl

/-- The transport's event list for a byte is the one of 40_transport R75. -/
theorem sendByteEvents_eq (c : Config) (on : Bool) (v : Byte) (isData : Bool) :
    sendByteEvents c on v isData = Safety.byteTransfer c on isData v := by
  simp only [sendByteEvents, writeNibbleEvents_eq]
  cases isData <;> rfl

theorem State.writeExpander_eq (s : State) (b : Byte) : s.writeExpander b = Safety.sendingBusByte s b := by
  cases h : s.backlightState <;>
    simp [State.writeExpander, State.emit, Safety.sendingBusByte, Safety.emitting, expanderWriteEvents, lastBusByte,
      Safety.lamp, backlightBit, deviceAddress, tXw, xbBl, h]

theorem State.writeNibble_eq (s : State) (nb : Byte) : s.writeNibble nb = Safety.sendingNibble s nb := by
  simp [State.writeNibble, writeNibbleEvents_eq, Safety.sendingNibble, Safety.emitting, State.emit,
    Safety.nibbleTransfer, lastBusByte, deviceAddress]

/-- One byte sent is two nibble transfers and nothing else (40_transport R75). -/
theorem State.sendByte_eq (s : State) (v : Byte) (isData : Bool) :
    s.sendByte v isData = Safety.sending s isData v := by
  have h : ((v <<< 4 &&& 0xF0#8 ||| Safety.select isData) &&& 0xFB#8) =
      (v <<< 4 &&& 0xF0#8 ||| Safety.select isData) := by
    cases isData <;> revert v <;> decide
  simp [State.sendByte, sendByteEvents_eq, Safety.sending, Safety.emitting, State.emit, Safety.byteTransfer,
    Safety.nibbleTransfer, lastBusByte, deviceAddress, h]

theorem State.command_eq (s : State) (v : Byte) : s.command v = Safety.sending s false v := s.sendByte_eq v false

theorem State.writeData_eq (s : State) (v : Byte) : s.writeData v = Safety.sending s true v := s.sendByte_eq v true

theorem State.wait_eq (s : State) (ns : Nat) : s.wait ns = Safety.delaying s ns := rfl

/-- A loop of data writes is one emission of all their events (43 R109, R112). -/
theorem State.writeAll_eq (s : State) (bytes : List Byte) :
    s.writeAll bytes = s.emit (bytes.flatMap fun v => sendByteEvents s.config s.backlightState v true) := by
  induction bytes generalizing s with
  | nil => simp [State.writeAll]
  | cons v rest ih => simp [State.writeAll, ih, State.writeData, State.sendByte, State.emit_emit]

theorem State.updateControl_eq (s : State) (v : Byte) :
    s.updateControl v = Safety.sending { s with controlFlags := v } false (s.config.cmdDisplayControl ||| v) := by
  simp [State.updateControl, State.flushControl, State.command_eq, displayControlCommand, State.withControlFlags]

theorem State.updateMode_eq (s : State) (v : Byte) :
    s.updateMode v = Safety.sending { s with modeFlags := v } false (s.config.cmdEntryModeSet ||| v) := by
  simp [State.updateMode, State.flushMode, State.command_eq, entryModeCommand, State.withModeFlags]

/-- What a fetch answers, and when. -/
theorem fetch_cases (s : State) :
    (s.program = [] ∧ fetch s = .idle) ∨
      (∃ r rest i, s.program = r :: rest ∧ decodeOpSelect r = .ok i ∧ fetch s = .run i (s.withProgram rest)) ∨
      (∃ r rest e, s.program = r :: rest ∧ decodeOpSelect r = .error e ∧ fetch s = .refuse .badOpSelect) := by
  unfold fetch
  cases hp : s.program with
  | nil => exact .inl ⟨rfl, rfl⟩
  | cons r rest =>
    cases hd : decodeOpSelect r with
    | ok i => exact .inr (.inl ⟨r, rest, i, rfl, hd, by simp [hd]⟩)
    | error e => exact .inr (.inr ⟨r, rest, e, rfl, hd, by simp [hd]⟩)

/-- What a step that answers a next state did: nothing, for want of an operation, or one whole operation. -/
theorem step_next_cases {s t : State} (h : step s = .next t) :
    (s.program = [] ∧ t = s) ∨
      (∃ r rest i, s.program = r :: rest ∧ decodeOpSelect r = .ok i ∧ exec i (s.withProgram rest) = .next t) := by
  unfold step at h
  rcases fetch_cases s with ⟨hp, hf⟩ | ⟨r, rest, i, hp, hd, hf⟩ | ⟨r, rest, e, hp, hd, hf⟩ <;> rw [hf] at h
  · exact .inl ⟨hp, by simpa using h.symm⟩
  · exact .inr ⟨r, rest, i, hp, hd, h⟩
  · simp at h

end Sys2Proof.Machine
end

