-- ==== Sys2Proof/Laws/Configure.lean ====
section
/-! SUPPORT. Laws/Configure.lean: the nine steps of `CONFIGURE` as one emission around two register writes. -/

namespace Sys2Proof.Machine

theorem State.emit_withControlFlags (s : State) (es : List Event) (v : Byte) :
    (s.emit es).withControlFlags v = (s.withControlFlags v).emit es := rfl

theorem State.emit_withModeFlags (s : State) (es : List Event) (v : Byte) :
    (s.emit es).withModeFlags v = (s.withModeFlags v).emit es := rfl

theorem State.emit_withPhase (s : State) (es : List Event) (p : Phase) :
    (s.emit es).withPhase p = (s.withPhase p).emit es := rfl

/-- The events of the nine steps from a state (41_configure_init R89), by the transport's own event lists. -/
def handshakeOf (c : Config) (on : Bool) (fs : Byte) : List Event :=
  [.delay tPowerUp] ++ (expanderWriteEvents on 0x00#8 ++ [.delay tResetSettle]) ++
  (writeNibbleEvents c on initNibble8BitByte ++ [.delay tInit1]) ++
  (writeNibbleEvents c on initNibble8BitByte ++ [.delay tInit2]) ++
  (writeNibbleEvents c on initNibble8BitByte ++ [.delay tInit3]) ++
  writeNibbleEvents c on initNibble4BitByte ++ sendByteEvents c on (functionSetCommand c fs) false ++
  sendByteEvents c on (displayControlCommand c c.flagDisplayOn) false ++
  (sendByteEvents c on c.cmdClearDisplay false ++ [.delay tClearHome]) ++
  sendByteEvents c on (entryModeCommand c c.flagEntryLeft) false ++
  (sendByteEvents c on c.cmdReturnHome false ++ [.delay tClearHome])

/-- All the handshake does: its events are emitted in order, and three registers are written (R85, R87, R88). -/
theorem initHandshake_eq (s : State) :
    initHandshake s =
      (((s.withControlFlags s.config.flagDisplayOn).withModeFlags s.config.flagEntryLeft).withPhase .ready).emit
        (handshakeOf s.config s.backlightState s.functionFlags) := by
  simp only [initHandshake, configureStep1, configureStep2, configureStep3, configureStep4, configureStep5,
    configureStep6, configureStep7, configureStep8, configureStep9, State.homeAndSettle, State.clearAndSettle,
    State.updateControl, State.updateMode, State.flushControl, State.flushMode, State.command, State.sendByte,
    State.writeNibble, State.writeExpander, State.wait, State.emit_emit, State.emit_withControlFlags,
    State.emit_withModeFlags, State.emit_withPhase, State.emit_config, State.emit_backlightState,
    State.emit_functionFlags, State.emit_controlFlags, State.emit_modeFlags, State.withControlFlags_config,
    State.withControlFlags_backlightState, State.withControlFlags_controlFlags, State.withModeFlags_config,
    State.withModeFlags_backlightState, State.withModeFlags_modeFlags, handshakeOf, List.append_assoc]

/-- The register set-up of 41_configure_init R79 in the words of 10_state R34. -/
theorem functionFlagsOf_eq (c : Config) (lines fontVariant : Byte) :
    functionFlagsOf c lines fontVariant = Safety.configuredFunctionFlags c lines fontVariant := by
  have h : (lines == 1#8) = decide (lines.toNat = 1) := by
    rw [Bool.eq_iff_iff]; simp [← BitVec.toNat_inj]
  by_cases h1 : 1 < lines.toNat <;> by_cases h2 : fontVariant = 0#8 <;> by_cases h3 : lines.toNat = 1 <;>
    simp [functionFlagsOf, Safety.configuredFunctionFlags, flagIf, h, h1, h2, h3]

/-- With the backlight on, the handshake's events are those 41_configure_init R80 to R88 write out. -/
theorem handshakeOf_eq (c : Config) (fs : Byte) :
    handshakeOf c true fs = Safety.handshakeEvents c (c.cmdFunctionSet ||| fs) := by
  simp only [handshakeOf, Safety.handshakeEvents, writeNibbleEvents_eq, sendByteEvents_eq, List.append_assoc]
  rfl

end Sys2Proof.Machine
end

