-- ==== Sys2Proof/Laws/Observers.lean ====
section
/-! SUPPORT. Laws/Observers.lean: the trace observers over concatenation and over one byte transfer. -/

namespace Sys2Proof.Machine

@[simp] theorem busBytes_append (a b : List Event) : busBytes (a ++ b) = busBytes a ++ busBytes b := by
  induction a with
  | nil => rfl
  | cons e rest ih => cases e <;> simp [busBytes, ih]

@[simp] theorem busWrites_append (a b : List Event) : busWrites (a ++ b) = busWrites a + busWrites b := by
  induction a with
  | nil => simp [busWrites]
  | cons e rest ih => cases e <;> simp [busWrites, ih]; omega

@[simp] theorem minDuration_append (a b : List Event) : minDuration (a ++ b) = minDuration a + minDuration b := by
  induction a with
  | nil => simp [minDuration]
  | cons e rest ih => cases e <;> simp [minDuration, ih]; omega

@[simp] theorem mergeDelays_busWrite (a : BusAddress) (bytes : List Byte) (rest : List Event) :
    mergeDelays (.busWrite a bytes :: rest) = .busWrite a bytes :: mergeDelays rest := rfl

/-- What merging does with a delay in front: it joins the delay the rest begins with, if there is one. -/
theorem mergeDelays_delay_cases (d : Nat) (rest : List Event) :
    (∃ e later, mergeDelays rest = .delay e :: later ∧ mergeDelays (.delay d :: rest) = .delay (d + e) :: later) ∨
      ((∀ e later, mergeDelays rest ≠ .delay e :: later) ∧
        mergeDelays (.delay d :: rest) = .delay d :: mergeDelays rest) := by
  cases h : mergeDelays rest with
  | nil => exact .inr ⟨by simp, by simp [mergeDelays, h]⟩
  | cons x later =>
    cases x with
    | delay e => exact .inl ⟨e, later, rfl, by simp [mergeDelays, h]⟩
    | busWrite a bytes => exact .inr ⟨by simp, by simp [mergeDelays, h]⟩

/-- Merging two delays in front changes nothing of the merged form (70 R131). -/
theorem mergeDelays_delay_delay (d e : Nat) (rest : List Event) :
    mergeDelays (.delay d :: .delay e :: rest) = mergeDelays (.delay (d + e) :: rest) := by
  rcases mergeDelays_delay_cases e rest with ⟨f, later, h, h'⟩ | ⟨h, h'⟩
  · simp [mergeDelays, h, Nat.add_assoc]
  · rcases mergeDelays_delay_cases (d + e) rest with ⟨f, later, g, _⟩ | ⟨_, g⟩
    · exact absurd g (h f later)
    · rw [g, mergeDelays, h']

/-- Merging the later part first changes nothing of the merged form. -/
theorem mergeDelays_append_right (a b : List Event) : mergeDelays (a ++ mergeDelays b) = mergeDelays (a ++ b) := by
  have idem : ∀ b : List Event, mergeDelays (mergeDelays b) = mergeDelays b := by
    intro b
    induction b with
    | nil => rfl
    | cons x rest ih =>
      cases x with
      | busWrite a bytes => simp [ih]
      | delay d =>
        rcases mergeDelays_delay_cases d rest with ⟨e, later, h, h'⟩ | ⟨h, h'⟩
        · rw [h', ← mergeDelays_delay_delay, mergeDelays, ← h, ih, h]
        · rw [h', mergeDelays, ih]
          exact h'
  induction a with
  | nil => exact idem b
  | cons x rest ih => cases x <;> simp only [List.cons_append, mergeDelays, ih]

/-- What is waited out does not depend on how adjacent delays are merged. -/
theorem waitsOut_delay_delay (c : Config) (owed : Nat) (x : Byte) (d e : Nat) (rest : List Event) :
    waitsOut c owed x (.delay d :: .delay e :: rest) = waitsOut c owed x (.delay (d + e) :: rest) := by
  simp [waitsOut, Nat.sub_sub]

/-- The latch observer goes on from the last byte of what it has read. -/
theorem latchedAfter_append (x : Byte) (a b : List Byte) :
    latchedAfter x (a ++ b) = latchedAfter x a ++ latchedAfter (a.getLastD x) b := by
  induction a generalizing x with
  | nil => rfl
  | cons c rest ih => simp only [List.cons_append, latchedAfter, ih, List.getLastD_cons, List.append_assoc]

/-- The three bus bytes of a nibble transfer (40_transport R74). -/
theorem busBytes_nibbleTransfer (c : Config) (on : Bool) (nb : Byte) :
    busBytes (Safety.nibbleTransfer c on nb) =
      [nb ||| Safety.lamp on, nb ||| 0x04#8 ||| Safety.lamp on, (nb &&& 0xFB#8) ||| Safety.lamp on] := rfl

/-- The cost of a byte transfer (70 R135). -/
theorem minDuration_byteTransfer (c : Config) (on isData : Bool) (v : Byte) :
    minDuration (Safety.byteTransfer c on isData v) = 2 * (6000000 + c.tEnHigh + c.tEnLow) := by
  simp [Safety.byteTransfer, Safety.nibbleTransfer, minDuration]; omega

theorem busWrites_byteTransfer (c : Config) (on isData : Bool) (v : Byte) :
    busWrites (Safety.byteTransfer c on isData v) = 6 := rfl

end Sys2Proof.Machine
end

