-- ==== Sys2Proof/Laws/PerInstr.lean ====
section
/-! SUPPORT. Laws/PerInstr.lean: the laws stated for all instructions, one lemma for each constructor. The family `RowWord`
says that an encoded well-formed instruction matches its row of spec/opcode_table.json. -/

namespace Sys2Proof

/-- The match and the mask of each row, as spec/opcode_table.json gives them (for an internal operation, the fixed bits of
its operand's layout). -/
def Laws.RowWord.row : Instr → Byte × Byte
  | .configure _ _ _ => (0x00#8, 0xFF#8)
  | .clear => (0x01#8, 0xFF#8)
  | .home => (0x02#8, 0xFF#8)
  | .setCursor _ _ => (0x03#8, 0xFF#8)
  | .displayOn => (0x04#8, 0xFF#8)
  | .displayOff => (0x05#8, 0xFF#8)
  | .cursorOn => (0x06#8, 0xFF#8)
  | .cursorOff => (0x07#8, 0xFF#8)
  | .blinkOn => (0x08#8, 0xFF#8)
  | .blinkOff => (0x09#8, 0xFF#8)
  | .scrollLeft => (0x0A#8, 0xFF#8)
  | .scrollRight => (0x0B#8, 0xFF#8)
  | .leftToRight => (0x0C#8, 0xFF#8)
  | .rightToLeft => (0x0D#8, 0xFF#8)
  | .autoscrollOn => (0x0E#8, 0xFF#8)
  | .autoscrollOff => (0x0F#8, 0xFF#8)
  | .createChar _ _ => (0x10#8, 0xFF#8)
  | .backlightOn => (0x11#8, 0xFF#8)
  | .backlightOff => (0x12#8, 0xFF#8)
  | .print _ _ => (0x13#8, 0xFF#8)
  | .sendByte _ _ => (0x00#8, 0x00#8)
  | .writeNibble _ => (0x00#8, 0x0E#8)
  | .expanderWrite _ => (0x00#8, 0x00#8)
  | .clearDisplay => (0x01#8, 0xFF#8)
  | .returnHome => (0x02#8, 0xFE#8)
  | .entryModeSet _ _ => (0x04#8, 0xFC#8)
  | .displayControl _ _ _ => (0x08#8, 0xF8#8)
  | .cursorShift _ _ => (0x10#8, 0xF0#8)
  | .functionSet _ _ _ => (0x20#8, 0xE0#8)
  | .setCgramAddr _ => (0x40#8, 0xC0#8)
  | .setDdramAddr _ => (0x80#8, 0x80#8)
  | .initNibble8Bit => (0x30#8, 0xFF#8)
  | .initNibble4Bit => (0x20#8, 0xFF#8)
  | .dataByte _ => (0x00#8, 0x00#8)
  | .nibbleByte _ _ => (0x00#8, 0x0E#8)
  | .expanderByte _ _ _ _ => (0x00#8, 0x02#8)

/-- The word of a well-formed instruction has the fixed bits its row gives. -/
def Laws.RowWord.Statement (i : Instr) : Prop :=
  i.wellFormed = true → (encode i).code &&& (Laws.RowWord.row i).2 = (Laws.RowWord.row i).1

theorem Laws.RowWord.configure (columns lines fontVariant : Byte) :
    Laws.RowWord.Statement (.configure columns lines fontVariant) := by
  intro _; simp [encode, Laws.RowWord.row]

theorem Laws.RowWord.clear :
    Laws.RowWord.Statement (.clear) := fun _ => rfl

theorem Laws.RowWord.home :
    Laws.RowWord.Statement (.home) := fun _ => rfl

theorem Laws.RowWord.setCursor (col row : Byte) :
    Laws.RowWord.Statement (.setCursor col row) := by
  intro _; simp [encode, Laws.RowWord.row]

theorem Laws.RowWord.displayOn :
    Laws.RowWord.Statement (.displayOn) := fun _ => rfl

theorem Laws.RowWord.displayOff :
    Laws.RowWord.Statement (.displayOff) := fun _ => rfl

theorem Laws.RowWord.cursorOn :
    Laws.RowWord.Statement (.cursorOn) := fun _ => rfl

theorem Laws.RowWord.cursorOff :
    Laws.RowWord.Statement (.cursorOff) := fun _ => rfl

theorem Laws.RowWord.blinkOn :
    Laws.RowWord.Statement (.blinkOn) := fun _ => rfl

theorem Laws.RowWord.blinkOff :
    Laws.RowWord.Statement (.blinkOff) := fun _ => rfl

theorem Laws.RowWord.scrollLeft :
    Laws.RowWord.Statement (.scrollLeft) := fun _ => rfl

theorem Laws.RowWord.scrollRight :
    Laws.RowWord.Statement (.scrollRight) := fun _ => rfl

theorem Laws.RowWord.leftToRight :
    Laws.RowWord.Statement (.leftToRight) := fun _ => rfl

theorem Laws.RowWord.rightToLeft :
    Laws.RowWord.Statement (.rightToLeft) := fun _ => rfl

theorem Laws.RowWord.autoscrollOn :
    Laws.RowWord.Statement (.autoscrollOn) := fun _ => rfl

theorem Laws.RowWord.autoscrollOff :
    Laws.RowWord.Statement (.autoscrollOff) := fun _ => rfl

theorem Laws.RowWord.createChar (slot : Byte) (rows : List Byte) :
    Laws.RowWord.Statement (.createChar slot rows) := by
  intro _; simp [encode, Laws.RowWord.row]

theorem Laws.RowWord.backlightOn :
    Laws.RowWord.Statement (.backlightOn) := fun _ => rfl

theorem Laws.RowWord.backlightOff :
    Laws.RowWord.Statement (.backlightOff) := fun _ => rfl

theorem Laws.RowWord.print (buffer : List Byte) (size : Nat) :
    Laws.RowWord.Statement (.print buffer size) := by
  intro _; simp [encode, Laws.RowWord.row]

theorem Laws.RowWord.sendByte (value : Byte) (isData : Bool) :
    Laws.RowWord.Statement (.sendByte value isData) := fun _ => BitVec.and_zero

theorem Laws.RowWord.writeNibble (nb : Byte) :
    Laws.RowWord.Statement (.writeNibble nb) := fun h => of_decide_eq_true h

theorem Laws.RowWord.expanderWrite (b : Byte) :
    Laws.RowWord.Statement (.expanderWrite b) := fun _ => BitVec.and_zero

theorem Laws.RowWord.clearDisplay :
    Laws.RowWord.Statement (.clearDisplay) := fun _ => rfl

theorem Laws.RowWord.returnHome :
    Laws.RowWord.Statement (.returnHome) := fun _ => rfl

theorem Laws.RowWord.entryModeSet (i s : Bool) :
    Laws.RowWord.Statement (.entryModeSet i s) := by cases i <;> cases s <;> exact fun _ => rfl

theorem Laws.RowWord.displayControl (d c b : Bool) :
    Laws.RowWord.Statement (.displayControl d c b) := by cases d <;> cases c <;> cases b <;> exact fun _ => rfl

theorem Laws.RowWord.cursorShift (m r : Bool) :
    Laws.RowWord.Statement (.cursorShift m r) := by cases m <;> cases r <;> exact fun _ => rfl

theorem Laws.RowWord.functionSet (w n f : Bool) :
    Laws.RowWord.Statement (.functionSet w n f) := by cases w <;> cases n <;> cases f <;> exact fun _ => rfl

theorem Laws.RowWord.setCgramAddr (l : BitVec 3) :
    Laws.RowWord.Statement (.setCgramAddr l) := by revert l; unfold Laws.RowWord.Statement; decide

theorem Laws.RowWord.setDdramAddr (a : BitVec 7) :
    Laws.RowWord.Statement (.setDdramAddr a) := by revert a; unfold Laws.RowWord.Statement; decide

theorem Laws.RowWord.initNibble8Bit :
    Laws.RowWord.Statement (.initNibble8Bit) := fun _ => rfl

theorem Laws.RowWord.initNibble4Bit :
    Laws.RowWord.Statement (.initNibble4Bit) := fun _ => rfl

theorem Laws.RowWord.dataByte (v : Byte) :
    Laws.RowWord.Statement (.dataByte v) := fun _ => BitVec.and_zero

theorem Laws.RowWord.nibbleByte (d : Nibble) (s : Bool) :
    Laws.RowWord.Statement (.nibbleByte d s) := by revert d; cases s <;> unfold Laws.RowWord.Statement <;> decide

theorem Laws.RowWord.expanderByte (d : Nibble) (b e s : Bool) :
    Laws.RowWord.Statement (.expanderByte d b e s) := by revert d; cases b <;> cases e <;> cases s <;> unfold Laws.RowWord.Statement <;> decide

end Sys2Proof
end

