-- ==== Sys2Proof/Tests/Slice0.lean ====
section
/-! SUPPORT. Tests/Slice0.lean: the model's own tests. Expected bytes are those of spec/95_test_vectors.md (a vector's name
stands before each group), and one witness for each statement with hypotheses. -/

namespace Sys2Proof.Tests

open Sys2Proof.Machine Sys2Proof.Safety

/-- A small unconfigured state with the default parameters and nothing sent. -/
def fresh : State :=
  { config := standardConfig, phase := .unconfigured, functionFlags := 0xFF#8, controlFlags := 0xFF#8,
    modeFlags := 0xFF#8, lineCount := 0xFF#8, columnCount := 0xFF#8, backlightState := false, xlatch := 0xFF#8,
    trace := [], program := [] }

/-- A configured state of two lines, with nothing sent yet. -/
def ready : State :=
  { fresh with phase := .ready, functionFlags := 0x08#8, controlFlags := 0x04#8, modeFlags := 0x02#8,
               lineCount := 2#8, columnCount := 16#8, backlightState := true }

/-- The same with the backlight off. -/
def dark : State := { ready with backlightState := false }

/-- The state after `CONFIGURE 16, 2, 0`. -/
def booted : State := configured fresh 16#8 2#8 0#8

/-- The bus bytes an instruction adds. -/
def bytesOf (i : Instr) (s : State) : List Byte :=
  match exec i s with
  | .next t => busBytes (added s t)
  | _ => []

/-- The refusal an instruction ends in. -/
def refusalIn (i : Instr) (s : State) : Option Refusal :=
  match exec i s with
  | .refused r => some r
  | _ => none

/-- The control and the mode register after an instruction. -/
def flagsAfter (i : Instr) (s : State) : Option (Byte × Byte) :=
  match exec i s with
  | .next t => some (t.controlFlags, t.modeFlags)
  | _ => none

-- Decoding: a word of each format, written out from its pattern (30_encoding R57 to R59, R61, R65, 41 R82, R83).
theorem test_decode_opselect_configure :
    decodeOpSelect ⟨0b00000000#8, 20#8, 4#8, 1#8, [], 0⟩ = .ok (.configure 20#8 4#8 1#8) := by decide
theorem test_decode_opselect_plain :
    decodeOpSelect (Request.plain 0b00000001#8) = .ok .clear ∧
    decodeOpSelect (Request.plain 0b00000010#8) = .ok .home ∧
    decodeOpSelect (Request.plain 0b00000100#8) = .ok .displayOn ∧
    decodeOpSelect (Request.plain 0b00000101#8) = .ok .displayOff ∧
    decodeOpSelect (Request.plain 0b00000110#8) = .ok .cursorOn ∧
    decodeOpSelect (Request.plain 0b00000111#8) = .ok .cursorOff ∧
    decodeOpSelect (Request.plain 0b00001000#8) = .ok .blinkOn ∧
    decodeOpSelect (Request.plain 0b00001001#8) = .ok .blinkOff ∧
    decodeOpSelect (Request.plain 0b00001010#8) = .ok .scrollLeft ∧
    decodeOpSelect (Request.plain 0b00001011#8) = .ok .scrollRight ∧
    decodeOpSelect (Request.plain 0b00001100#8) = .ok .leftToRight ∧
    decodeOpSelect (Request.plain 0b00001101#8) = .ok .rightToLeft ∧
    decodeOpSelect (Request.plain 0b00001110#8) = .ok .autoscrollOn ∧
    decodeOpSelect (Request.plain 0b00001111#8) = .ok .autoscrollOff ∧
    decodeOpSelect (Request.plain 0b00010001#8) = .ok .backlightOn ∧
    decodeOpSelect (Request.plain 0b00010010#8) = .ok .backlightOff := by decide
theorem test_decode_opselect_setCursor :
    decodeOpSelect ⟨0b00000011#8, 5#8, 1#8, 9#8, [7#8], 4⟩ = .ok (.setCursor 5#8 1#8) := by decide
theorem test_decode_opselect_createChar :
    decodeOpSelect ⟨0b00010000#8, 9#8, 0#8, 0#8, [1#8, 2#8], 0⟩ = .ok (.createChar 9#8 [1#8, 2#8]) := by decide
theorem test_decode_opselect_print :
    decodeOpSelect ⟨0b00010011#8, 0#8, 0#8, 0#8, [0x48#8], 2⟩ = .ok (.print [0x48#8] 2) := by decide
theorem test_decode_opselect_unknown : decodeOpSelect (Request.plain 0x14#8) = .error .badOpSelect := by decide
theorem test_decode_cmd8 :
    decodeCommand 0b00000001#8 = .ok .clearDisplay ∧ decodeCommand 0b00000010#8 = .ok .returnHome ∧
    decodeCommand 0b00000110#8 = .ok (.entryModeSet true false) ∧
    decodeCommand 0b00001101#8 = .ok (.displayControl true false true) ∧
    decodeCommand 0b00011100#8 = .ok (.cursorShift true true) ∧
    decodeCommand 0b00100100#8 = .ok (.functionSet false false true) ∧
    decodeCommand 0b01001000#8 = .ok (.setCgramAddr 1#3) ∧
    decodeCommand 0b11010111#8 = .ok (.setDdramAddr 0x57#7) := by decide
theorem test_decode_cmd8_never_emitted :
    decodeCommand 0x00#8 = .error .notACommandByte ∧ decodeCommand 0x03#8 = .error .notACommandByte ∧
    decodeCommand 0x41#8 = .error .notACommandByte ∧ decodeCommand 0x21#8 = .error .notACommandByte := by decide
theorem test_decode_literals :
    decodeLiteral 0x30#8 = .ok .initNibble8Bit ∧ decodeLiteral 0x20#8 = .ok .initNibble4Bit ∧
    decodeLiteral 0x31#8 = .error .notALiteral := by decide
theorem test_decode_nb8 :
    decodeNibbleByte 0b10000001#8 = .ok (.nibbleByte 0x8#4 true) ∧
    decodeNibbleByte 0b10000010#8 = .error .notANibbleByte := by decide
theorem test_decode_xb8 :
    decodeExpanderByte 0b01001101#8 = .ok (.expanderByte 0x4#4 true true true) ∧
    decodeExpanderByte 0b01000010#8 = .error .notAnExpanderByte := by decide
theorem test_decode_operand_rows :
    decodeAs .data8 (Request.plain 0x48#8) = .ok (.dataByte 0x48#8) ∧
    decodeAs .sendByte ⟨0x48#8, 1#8, 0#8, 0#8, [], 0⟩ = .ok (.sendByte 0x48#8 true) ∧
    decodeAs .writeNibble (Request.plain 0x41#8) = .ok (.writeNibble 0x41#8) ∧
    decodeAs .writeNibble (Request.plain 0x44#8) = .error .notANibbleByte ∧
    decodeAs .expanderWrite (Request.plain 0x34#8) = .ok (.expanderWrite 0x34#8) := by decide
theorem test_decodeTableWord :
    decodeTableWord 8 0x00 = some (.configure 0#8 0#8 0#8) ∧ decodeTableWord 8 0x05 = some .displayOff ∧
    decodeTableWord 8 0x10 = some (.createChar 0#8 [0#8, 0#8, 0#8, 0#8, 0#8, 0#8, 0#8, 0#8]) ∧
    decodeTableWord 8 0x14 = none := by decide

-- WellFormed: an ill-formed term for each of its checks.
theorem test_wellFormed_lines :
    (Instr.configure 16#8 0#8 0#8).wellFormed = false ∧ (Instr.configure 16#8 5#8 0#8).wellFormed = false ∧
    (Instr.configure 16#8 4#8 0#8).wellFormed = true := by decide
theorem test_wellFormed_rows : (Instr.createChar 0#8 [1#8, 2#8, 3#8]).wellFormed = false := by decide
theorem test_wellFormed_print :
    (Instr.print [0x48#8] 0).wellFormed = false ∧ (Instr.print [0x48#8] 3).wellFormed = false := by decide
theorem test_wellFormed_emitted :
    (Instr.writeNibble 0x48#8).wellFormed = false ∧ (Instr.cursorShift false true).wellFormed = false ∧
    (Instr.functionSet true false false).wellFormed = false ∧
    (Instr.functionSet false true true).wellFormed = false := by decide

-- V-XW, V-WN, V-SB.
theorem test_expanderWrite :
    bytesOf (.expanderWrite 0x34#8) ready = [0x3C#8] ∧ bytesOf (.expanderWrite 0x08#8) dark = [0x08#8] := by decide
theorem test_writeNibble :
    bytesOf (.writeNibble 0x30#8) ready = [0x38#8, 0x3C#8, 0x38#8] ∧
    bytesOf (.writeNibble 0x41#8) dark = [0x41#8, 0x45#8, 0x41#8] := by decide
theorem test_writeNibble_events :
    writeNibbleEvents standardConfig true 0x30#8 =
      [.busWrite 0x27#7 [0x38#8], .delay 2000000, .busWrite 0x27#7 [0x3C#8], .delay 2000000, .delay 1000,
        .busWrite 0x27#7 [0x38#8], .delay 2000000, .delay 37000] := by decide
theorem test_sendByte_data :
    bytesOf (.sendByte 0x48#8 true) ready = [0x49#8, 0x4D#8, 0x49#8, 0x89#8, 0x8D#8, 0x89#8] := by decide
theorem test_sendByte_command_dark :
    bytesOf (.sendByte 0xA5#8 false) dark = [0xA0#8, 0xA4#8, 0xA0#8, 0x50#8, 0x54#8, 0x50#8] := by decide

-- V-CFG (E7), V-CFG-REF.
theorem test_configure_state :
    exec (.configure 16#8 2#8 0#8) fresh = .next booted ∧ booted.functionFlags = 0x08#8 ∧
    booted.controlFlags = 0x04#8 ∧ booted.modeFlags = 0x02#8 ∧ booted.xlatch = 0x28#8 ∧
    booted.trace.length = 121 ∧ busWrites booted.trace = 43 ∧ minDuration booted.trace = 1149682000 :=
  ⟨rfl, by decide, by decide, by decide, by decide, by decide, by decide, by decide⟩
theorem test_configure_font :
    (configured fresh 16#8 1#8 1#8).functionFlags = 0x04#8 ∧ (configured fresh 0#8 3#8 255#8).functionFlags = 0x08#8 ∧
    (configured fresh 16#8 1#8 0#8).functionFlags = 0x00#8 := by decide
theorem test_configure_refused :
    refusalIn (.configure 16#8 0#8 0#8) fresh = some .linesOutOfRange ∧
    refusalIn (.configure 16#8 5#8 0#8) fresh = some .linesOutOfRange ∧
    refusalIn (.configure 16#8 0#8 0#8) ready = some .configureTwice := by decide

-- V-SIMPLE.
theorem test_clear : bytesOf .clear ready = [0x08#8, 0x0C#8, 0x08#8, 0x18#8, 0x1C#8, 0x18#8] := by decide
theorem test_home : bytesOf .home dark = [0x00#8, 0x04#8, 0x00#8, 0x20#8, 0x24#8, 0x20#8] := by decide
theorem test_scrollLeft : bytesOf .scrollLeft ready = [0x18#8, 0x1C#8, 0x18#8, 0x88#8, 0x8C#8, 0x88#8] := by decide
theorem test_scrollRight : bytesOf .scrollRight ready = [0x18#8, 0x1C#8, 0x18#8, 0xC8#8, 0xCC#8, 0xC8#8] := by decide

-- V-SC: the clamp, the sum of 0x100, and a line count of four.
theorem test_setCursor_clamp :
    bytesOf (.setCursor 0x13#8 3#8) ready = [0xD8#8, 0xDC#8, 0xD8#8, 0x38#8, 0x3C#8, 0x38#8] := by decide
theorem test_setCursor_wrap :
    bytesOf (.setCursor 0xC0#8 1#8) ready = [0x88#8, 0x8C#8, 0x88#8, 0x08#8, 0x0C#8, 0x08#8] ∧
    bytesOf (.setCursor 0x03#8 3#8) { ready with lineCount := 4#8 } =
      [0xD8#8, 0xDC#8, 0xD8#8, 0x78#8, 0x7C#8, 0x78#8] := by decide

-- V-CF and V-MF, a cell of each column, and the bytes of some.
theorem test_displayOn : flagsAfter .displayOn { ready with controlFlags := 0x03#8 } = some (0x07#8, 0x02#8) := by decide
theorem test_displayOff :
    bytesOf .displayOff ready = [0x08#8, 0x0C#8, 0x08#8, 0x88#8, 0x8C#8, 0x88#8] ∧
    flagsAfter .displayOff ready = some (0x00#8, 0x02#8) := by decide
theorem test_cursorOn :
    bytesOf .cursorOn ready = [0x08#8, 0x0C#8, 0x08#8, 0xE8#8, 0xEC#8, 0xE8#8] ∧
    flagsAfter .cursorOn ready = some (0x06#8, 0x02#8) := by decide
theorem test_cursorOff : flagsAfter .cursorOff { ready with controlFlags := 0x07#8 } = some (0x05#8, 0x02#8) := by decide
theorem test_blinkOn : flagsAfter .blinkOn ready = some (0x05#8, 0x02#8) := by decide
theorem test_blinkOff : flagsAfter .blinkOff { ready with controlFlags := 0x07#8 } = some (0x06#8, 0x02#8) := by decide
theorem test_leftToRight : flagsAfter .leftToRight { ready with modeFlags := 0x01#8 } = some (0x04#8, 0x03#8) := by decide
theorem test_rightToLeft :
    bytesOf .rightToLeft ready = [0x08#8, 0x0C#8, 0x08#8, 0x48#8, 0x4C#8, 0x48#8] ∧
    flagsAfter .rightToLeft ready = some (0x04#8, 0x00#8) := by decide
theorem test_autoscrollOn :
    bytesOf .autoscrollOn ready = [0x08#8, 0x0C#8, 0x08#8, 0x78#8, 0x7C#8, 0x78#8] := by decide
theorem test_autoscrollOff : flagsAfter .autoscrollOff { ready with modeFlags := 0x03#8 } = some (0x04#8, 0x02#8) := by
  decide

-- V-CC-RAW (its first three lines), V-CC-NOROWS, V-CC-REF.
theorem test_createChar :
    (bytesOf (.createChar 2#8 [0xFF#8, 0xE0#8, 0x1F#8, 0x80#8, 0x55#8, 0xAA#8, 0x01#8, 0x10#8]) ready).take 18 =
      [0x58#8, 0x5C#8, 0x58#8, 0x08#8, 0x0C#8, 0x08#8, 0xF9#8, 0xFD#8, 0xF9#8, 0xF9#8, 0xFD#8, 0xF9#8,
        0xE9#8, 0xED#8, 0xE9#8, 0x09#8, 0x0D#8, 0x09#8] := by decide
theorem test_createChar_without_rows :
    bytesOf (.createChar 9#8 [0#8, 0#8, 0#8, 0#8, 0#8, 0#8, 0#8, 0#8])
        { ready with config := { standardConfig with cgramWriteRows := false } } =
      [0x48#8, 0x4C#8, 0x48#8, 0x88#8, 0x8C#8, 0x88#8] ∧
    refusalIn (.createChar 0#8 [1#8, 2#8, 3#8]) ready = some .rowsLength := by decide

-- V-BL.
theorem test_backlightOff :
    bytesOf .backlightOff ready = [] ∧ exec .backlightOff ready = .next dark ∧
    bytesOf .clear dark = [0x00#8, 0x04#8, 0x00#8, 0x10#8, 0x14#8, 0x10#8] := ⟨by decide, rfl, by decide⟩
theorem test_backlightOn : exec .backlightOn dark = .next ready := rfl

-- V-PR (an inner zero byte, no terminator slot), V-PR-REF.
theorem test_print :
    bytesOf (.print [0x48#8, 0x49#8] 3) ready =
      [0x49#8, 0x4D#8, 0x49#8, 0x89#8, 0x8D#8, 0x89#8, 0x49#8, 0x4D#8, 0x49#8, 0x99#8, 0x9D#8, 0x99#8] ∧
    bytesOf (.print [] 1) ready = [] ∧
    bytesOf (.print [0x00#8, 0x42#8] 2) ready = [0x09#8, 0x0D#8, 0x09#8, 0x09#8, 0x0D#8, 0x09#8] := by decide
theorem test_print_refused :
    refusalIn (.print [0x48#8] 0) ready = some .printSizeZero ∧
    refusalIn (.print [0x48#8] 3) ready = some .printBufferShort ∧
    refusalIn (.print [] 0) fresh = some .notConfigured := by decide

-- V-PH, 30_encoding R66.
theorem test_not_configured :
    refusalIn (.setCursor 0#8 0#8) fresh = some .notConfigured ∧ refusalIn .backlightOn fresh = some .notConfigured := by
  decide

-- The emitted rows, by their patterns.
theorem test_clearDisplay_returnHome :
    bytesOf .clearDisplay ready = [0x08#8, 0x0C#8, 0x08#8, 0x18#8, 0x1C#8, 0x18#8] ∧
    bytesOf .returnHome dark = [0x00#8, 0x04#8, 0x00#8, 0x20#8, 0x24#8, 0x20#8] := by decide
theorem test_command_rows :
    bytesOf (.entryModeSet true false) ready = [0x08#8, 0x0C#8, 0x08#8, 0x68#8, 0x6C#8, 0x68#8] ∧
    bytesOf (.displayControl true false false) ready = [0x08#8, 0x0C#8, 0x08#8, 0xC8#8, 0xCC#8, 0xC8#8] ∧
    bytesOf (.cursorShift true true) ready = [0x18#8, 0x1C#8, 0x18#8, 0xC8#8, 0xCC#8, 0xC8#8] ∧
    bytesOf (.functionSet false true false) ready = [0x28#8, 0x2C#8, 0x28#8, 0x88#8, 0x8C#8, 0x88#8] ∧
    bytesOf (.setCgramAddr 1#3) ready = [0x48#8, 0x4C#8, 0x48#8, 0x88#8, 0x8C#8, 0x88#8] ∧
    bytesOf (.setDdramAddr 0x45#7) ready = [0xC8#8, 0xCC#8, 0xC8#8, 0x58#8, 0x5C#8, 0x58#8] := by decide
theorem test_byte_rows :
    bytesOf .initNibble8Bit ready = [0x38#8, 0x3C#8, 0x38#8] ∧ bytesOf .initNibble4Bit ready = [0x28#8, 0x2C#8, 0x28#8] ∧
    bytesOf (.dataByte 0x49#8) ready = [0x49#8, 0x4D#8, 0x49#8, 0x99#8, 0x9D#8, 0x99#8] ∧
    bytesOf (.nibbleByte 0x8#4 true) ready = [0x89#8, 0x8D#8, 0x89#8] ∧
    bytesOf (.expanderByte 0x4#4 true true true) dark = [0x4D#8] := by decide

-- V-LT.
theorem test_latched :
    latched [0x38#8, 0x38#8, 0x38#8] = [] ∧ latched [0x3C#8, 0x38#8, 0x3C#8, 0x38#8] = [(false, 3#4), (false, 3#4)] ∧
    latched [0x3C#8, 0x49#8] = [(true, 4#4)] := by decide

-- The first step after reset: what the host's words select, and the phase gate (V-PH, P4c).
theorem test_step_from_reset :
    step (State.reset.withFetchWord 8 0x00) = .refused .linesOutOfRange ∧
    step (State.reset.withFetchWord 8 0x01) = .refused .notConfigured ∧
    step (State.reset.withFetchWord 8 0x20) = .refused .badOpSelect ∧ step State.reset = .next State.reset :=
  ⟨rfl, rfl, rfl, rfl⟩

-- Witnesses: a state and operands that meet all hypotheses of each statement that has some.

theorem witness_StepRunsTheDecodedOperation :
    (ready.withFetchWord 8 0x01).program = [tableRequest 8 0x01] ∧
      decodeOpSelect (tableRequest 8 0x01) = .ok .clear := by decide
theorem witness_StepWaitsForTheHost : ready.program = [] := rfl
theorem witness_UnknownOpSelectIsRefused :
    (ready.withFetchWord 8 0x14).program = [tableRequest 8 0x14] ∧ 0x14 ≤ (tableRequest 8 0x14).code.toNat ∧
      0x14 ≤ (tableRequest 8 0xFF).code.toNat := by decide
theorem witness_HostPresentsExactlyTheTwenty :
    decodeOpSelect (Request.plain 0x13#8) = .ok (.print [] 0) ∧ (Instr.print [] 0).isHost = true := by decide
theorem witness_DecodeOfEncodeIsIdentity : (Instr.functionSet false true false).wellFormed = true := by decide
theorem witness_EncodeOfDecodeIsIdentity :
    (Format.cmd8 ≠ .opsel8 ∧ decodeAs .cmd8 (Request.plain 0xFF#8) = .ok (.setDdramAddr 0x7F#7)) ∧
      decodeOpSelect (Request.plain 0x01#8) = .ok .clear := by decide
theorem witness_SendByteLatchesHighThenLow : ∃ t, exec (.sendByte 0xFF#8 true) ready = .next t := ⟨_, rfl⟩
theorem witness_WriteNibbleLatchesItsNibble :
    0xF1#8 &&& 0x0E#8 = 0#8 ∧ ∃ t, exec (.writeNibble 0xF1#8) ready = .next t := ⟨by decide, _, rfl⟩
theorem witness_SentByteIsRecoverable : ∃ t, exec (.sendByte 0x0F#8 false) dark = .next t := ⟨_, rfl⟩
theorem witness_LatchedOfConcatenation : (([0x38#8, 0x3C#8, 0x38#8] : List Byte).getLastD 0#8).getLsbD 2 = false := by
  decide
theorem witness_EmittedRowsSendTheirWord :
    ready.config = standardConfig ∧ (Instr.cursorShift true true).format = .cmd8 ∧ (Instr.dataByte 0#8).format = .data8 ∧
      Instr.initNibble8Bit.format = .literal ∧ (Instr.nibbleByte 0#4 true).format = .nb8 ∧
      (Instr.expanderByte 0#4 true true true).format = .xb8 := by decide
theorem witness_ConfigureRunsTheHandshake :
    fresh.phase = .unconfigured ∧ 1 ≤ (1#8).toNat ∧ (1#8).toNat ≤ 4 ∧ 1 ≤ (4#8).toNat ∧ (4#8).toNat ≤ 4 ∧
      ready.phase = .ready ∧ (0#8).toNat < 1 ∧ 4 < (5#8).toNat := by decide
theorem witness_ConfigureBusBytes :
    fresh.config = standardConfig ∧ ∃ t, exec (.configure 16#8 1#8 1#8) fresh = .next t := ⟨rfl, _, rfl⟩
theorem witness_ConfigureLatchesTheHandshakeInOrder :
    fresh.config = standardConfig ∧ fresh.trace = [] ∧ exec (.configure 16#8 2#8 0#8) fresh = .next booted :=
  ⟨rfl, rfl, rfl⟩
theorem witness_ConfigureTraceReadsLineClassAndOneLineFont :
    (∃ t, exec (.configure 16#8 2#8 0#8) fresh = .next t) ∧ (∃ t, exec (.configure 20#8 4#8 1#8) fresh = .next t) ∧
      (∃ t, exec (.configure 8#8 1#8 1#8) fresh = .next t) ∧ (∃ t, exec (.configure 9#8 1#8 2#8) fresh = .next t) ∧
      1 < (2#8).toNat ∧ 1 < (4#8).toNat ∧ ((1#8 : Byte) = 0#8 ↔ (2#8 : Byte) = 0#8) :=
  ⟨⟨_, rfl⟩, ⟨_, rfl⟩, ⟨_, rfl⟩, ⟨_, rfl⟩, by decide, by decide, by decide⟩
-- ClearAndHomeSendAndSettle, ControlFlagOperationsWriteAndFlush, ModeFlagOperationsWriteAndFlush, ScrollsSendTheShiftCommand,
-- BacklightOperationsEmitNothing.
theorem witness_ready_operations : ready.phase = .ready ∧ dark.phase = .ready := by decide
theorem witness_SetCursorSendsTheClampedAddress :
    ready.phase = .ready ∧ 1 ≤ (1#8).toNat ∧ (1#8).toNat ≤ 4 ∧ 1 ≤ (4#8).toNat ∧ (4#8).toNat ≤ 4 ∧
      { ready with lineCount := 1#8 }.lineCount = 1#8 ∧ { ready with lineCount := 4#8 }.lineCount = 4#8 := by decide
theorem witness_SetCursorRowSaturates :
    1 ≤ ready.lineCount.toNat ∧ ready.lineCount.toNat ≤ (2#8).toNat ∧ ready.lineCount.toNat ≤ (255#8).toNat ∧
      ready.phase = .ready ∧ ready.lineCount.toNat ≤ 4 := by decide
theorem witness_SetCursorAddressIsSevenBits :
    ready.phase = .ready ∧ configLawful ready.config = true ∧ 1 ≤ ready.lineCount.toNat ∧
      ready.lineCount.toNat ≤ 4 := by decide
theorem witness_FlagOperationsMoveOneBit :
    ready.config = standardConfig ∧ (∃ t, exec .blinkOn ready = .next t) ∧ flagBitOf .blinkOn = some (0, true) ∧
      isControlOp .blinkOn = true ∧ (∃ t, exec .rightToLeft ready = .next t) ∧
      flagBitOf .rightToLeft = some (1, false) ∧ isModeOp .rightToLeft = true :=
  ⟨rfl, ⟨_, rfl⟩, rfl, rfl, ⟨_, rfl⟩, rfl, rfl⟩
theorem witness_CreateCharSendsAddressAndRows :
    ready.phase = .ready ∧ ([1#8, 2#8, 3#8, 4#8, 5#8, 6#8, 7#8, 8#8] : List Byte).length = 8 ∧
      ([1#8, 2#8, 3#8, 4#8, 5#8, 6#8, 7#8] : List Byte).length ≠ 8 := by decide
theorem witness_PrintSendsTheCountedBytes :
    ready.phase = .ready ∧ (1 ≤ 1 ∧ 1 - 1 ≤ ([] : List Byte).length) ∧ ([] : List Byte).length < 2 - 1 := by decide
theorem witness_PrintReadsOnlyTheCountedBytes :
    2 - 1 ≤ ([0x48#8, 0x00#8] : List Byte).length ∧ 2 - 1 ≤ ([0x48#8] : List Byte).length ∧
      ∀ k : Nat, k < 2 - 1 → ([0x48#8, 0x00#8] : List Byte)[k]? = ([0x48#8] : List Byte)[k]? := by decide
theorem witness_NothingRunsBeforeConfigure :
    Instr.backlightOff.isHost = true ∧ isConfigure .backlightOff = false ∧ fresh.phase = .unconfigured := by decide
theorem witness_RefusalsAreExactlyTheListed :
    1 ≤ ready.lineCount.toNat ∧ ready.lineCount.toNat ≤ 4 ∧ refusalOf (.print [] 2) ready = some .printBufferShort ∧
      refusalOf .clear ready = none := by decide
-- TraceOnlyGrows, BlockNeverReadsItsOutput, ColumnCountIsReadByNothing.
theorem witness_every_next_state : ∃ t, exec .cursorOn ready = .next t := ⟨_, rfl⟩
theorem witness_OnlyTheNamedOperationsWriteARegister :
    isConfigure .home = false ∧ isControlOp .home = false ∧ isModeOp .home = false ∧ isBacklightOp .home = false ∧
      ready.phase = .ready ∧ ∃ t, exec .home ready = .next t := ⟨rfl, rfl, rfl, rfl, rfl, _, rfl⟩
-- HostOperationsEmitLegalEvents, BacklightBitInEveryBusByte, EnablePulsesAreWhole.
theorem witness_host_operations :
    (Instr.configure 16#8 2#8 0#8).isHost = true ∧ exec (.configure 16#8 2#8 0#8) fresh = .next booted ∧
      Instr.cursorOn.isHost = true ∧ (∃ t, exec .cursorOn ready = .next t) := ⟨rfl, rfl, rfl, _, rfl⟩
theorem witness_OperationCosts :
    fresh.config = standardConfig ∧ (Instr.configure 16#8 2#8 0#8).isHost = true ∧
      exec (.configure 16#8 2#8 0#8) fresh = .next booted ∧ (Instr.writeNibble 0x30#8).format = .writeNibble ∧
      (∃ t, exec (.writeNibble 0x30#8) ready = .next t) ∧
      (∃ t, exec (.createChar 9#8 [0#8, 0#8, 0#8, 0#8, 0#8, 0#8, 0#8, 0#8])
        { ready with config := { standardConfig with cgramWriteRows := false } } = .next t) :=
  ⟨rfl, rfl, rfl, rfl, ⟨_, rfl⟩, _, rfl⟩
theorem witness_RegistersLegal : RegistersLegal ready :=
  ⟨by decide, by decide, by decide, by decide, by decide⟩
theorem witness_CommandBytesAreTheListed :
    ready.config = standardConfig ∧ ready.phase = .ready ∧ Instr.scrollLeft.isHost = true ∧
      ∃ t, exec .scrollLeft ready = .next t := ⟨rfl, rfl, rfl, _, rfl⟩
theorem witness_ControlOperationsSendTheirTableRow :
    ready.config = standardConfig ∧ ready.controlFlags ≤ 0x07#8 ∧ isControlOp .displayOff = true ∧
      ∃ t, exec .displayOff ready = .next t := ⟨rfl, by decide, rfl, _, rfl⟩
theorem witness_ClearAndHomeAreTheirRowAndASettle :
    ready.phase = .ready ∧ (∃ t, exec .clearDisplay ready = .next t) ∧ ∃ t, exec .returnHome ready = .next t :=
  ⟨rfl, ⟨_, rfl⟩, _, rfl⟩
-- EquivalentTracesAreReadAlike, LongerDelaysBreakNoRequirement: the two delays after the enable-high write of a nibble
-- transfer are one of their sum (40_transport R74, corner cases), and 450 ns held for 1000 ns is no shorter (00_scope R12).
theorem test_mergeDelays :
    mergeDelays [.busWrite 0x27#7 [0x3C#8], .delay 2000000, .delay 1000] =
      [.busWrite 0x27#7 [0x3C#8], .delay 2001000] := by decide
theorem test_waitsAtLeast :
    waitsAtLeast [.delay 2000000, .delay 450] [.delay 2001000] = true ∧
      waitsAtLeast [.delay 2001000] [.delay 2000000, .delay 450] = false ∧
      waitsAtLeast [.busWrite 0x27#7 [0x38#8]] [.busWrite 0x27#7 [0x3C#8]] = false := by decide
theorem test_waitsOut :
    waitsOut standardConfig 0 0x00#8 [.busWrite 0x27#7 [0x3C#8], .delay 2000000, .delay 1000] = true ∧
      waitsOut standardConfig 0 0x00#8 [.busWrite 0x27#7 [0x3C#8], .delay 2000000] = false ∧
      waitsOut standardConfig 0 0x04#8 [.busWrite 0x27#7 [0x38#8], .delay 2036000] = false := by decide
/-- The lines before `CONFIGURE` are unknown (93 entry U14): one byte with the enable bit high, one with it low. -/
theorem witness_HostOperationsWaitOutEveryBusWrite :
    (Instr.configure 16#8 2#8 0#8).isHost = true ∧ exec (.configure 16#8 2#8 0#8) fresh = .next booted ∧
      isConfigure (.configure 16#8 2#8 0#8) = true ∧ fresh.config.tEnLow ≤ tResetSettle ∧
      (0xFF#8 : Byte).getLsbD 2 = true ∧ Instr.cursorOn.isHost = true ∧ (∃ t, exec .cursorOn ready = .next t) ∧
      (0x28#8 : Byte).getLsbD 2 = false :=
  ⟨rfl, rfl, rfl, by decide, rfl, rfl, ⟨_, rfl⟩, rfl⟩
theorem witness_EquivalentTracesAreReadAlike :
    TraceEquivalent [.delay 2000000, .delay 1000] [.delay 2001000] ∧
      ∃ t, exec .cursorOn { ready with trace := [.delay 2000000, .delay 1000] } = .next t :=
  ⟨.merge [] [] 2000000 1000, _, rfl⟩
theorem witness_LongerDelaysBreakNoRequirement :
    waitsAtLeast [.busWrite 0x27#7 [0x3C#8], .delay 2000000, .delay 1000] [.busWrite 0x27#7 [0x3C#8], .delay 2002000] =
        true ∧
      waitsOut standardConfig 0 0x00#8 [.busWrite 0x27#7 [0x3C#8], .delay 2000000, .delay 1000] = true ∧
      waitsAtLeast [.busWrite 0x27#7 [0x3C#8], .delay 2002000] [.busWrite 0x27#7 [0x3C#8], .delay 3000000] = true ∧
      waitsAtLeast [.delay 500] [.delay 500, .delay 1] = true := by decide
theorem witness_LongerHoldsOnlyLengthenDelays :
    ready.config.tEnHigh ≤ 2000 ∧ ready.config.tEnLow ≤ 37000 ∧ ∃ t, exec .cursorOn ready = .next t :=
  ⟨by decide, by decide, _, rfl⟩
/-- A configured block to which the host presents a word. -/
def presented (w : Nat) : State := booted.withFetchWord 8 w
-- WaitingRequestCompletesExactlyWhenPermitted: a permitted request, and one of each kind that is not: an unknown code,
-- operands without a meaning, a second CONFIGURE.
theorem witness_WaitingRequestCompletesExactlyWhenPermitted :
    Legal (presented 0x0A) ∧ (presented 0x0A).program = [tableRequest 8 0x0A] ∧
      decodeOpSelect (tableRequest 8 0x0A) = .ok .scrollLeft ∧ Instr.scrollLeft.wellFormed = true ∧
      isConfigure .scrollLeft = false ∧ (presented 0x0A).phase = .ready :=
  ⟨⟨by decide, fun _ => ⟨by decide, by decide, by decide, by decide, by decide⟩, fun h => absurd h (by decide),
    by decide⟩, by decide, by decide, by decide, by decide, by decide⟩
theorem witness_requests_not_permitted :
    decodeOpSelect (tableRequest 8 0x14) = .error .badOpSelect ∧
      decodeOpSelect (tableRequest 8 0x13) = .ok (.print [0#8, 0#8, 0#8, 0#8, 0#8, 0#8, 0#8, 0#8] 0) ∧
      (Instr.print [0#8, 0#8, 0#8, 0#8, 0#8, 0#8, 0#8, 0#8] 0).wellFormed = false ∧
      decodeOpSelect (tableRequest 8 0x00) = .ok (.configure 0#8 0#8 0#8) ∧
      isConfigure (.configure 0#8 0#8 0#8) = true ∧ (presented 0x00).phase ≠ .unconfigured := by decide
theorem witness_StepKeepsStateLegal :
    Legal booted ∧ ∃ t, step (booted.withFetchWord 8 0x0A) = .next t :=
  ⟨⟨by decide, fun _ => ⟨by decide, by decide, by decide, by decide, by decide⟩, fun h => absurd h (by decide),
    by decide⟩, _, rfl⟩
theorem witness_StepKeepsFlagsFlushed :
    Flushed booted ∧ ∃ t, step (booted.withFetchWord 8 0x08) = .next t :=
  ⟨⟨rfl, fun h => absurd h (by decide), fun _ => by decide, fun _ => by decide, fun _ => by decide, fun _ => by decide,
    fun _ => by decide, fun _ => by decide, fun _ => by decide⟩, _, rfl⟩

end Sys2Proof.Tests
end

section
/-! PROOFS. What an instruction reads: none reads the trace or the ghost (20_memory R49, 10_state R26). -/

namespace Sys2Proof.Machine

open Sys2Proof.Safety

/-- The same registers with another trace and another ghost value. -/
def State.withOutput (s : State) (tr : List Event) (x : Byte) : State := { s with trace := tr, xlatch := x }

/-- A change of the state that appends events chosen by the registers alone: beside another trace and ghost it writes the
same registers and appends the same events. -/
def OutputBlind (f : State → State) : Prop :=
  ∀ s, ∃ es, (f s).trace = s.trace ++ es ∧
    ∀ tr x, f (s.withOutput tr x) = (f s).withOutput (tr ++ es) (lastBusByte x es)

/-- An operation whose answer, where it is a next state, is blind to the trace and the ghost. -/
def AnswersBlind (k : State → Result) : Prop :=
  ∀ s t, k s = .next t → ∃ es, t.trace = s.trace ++ es ∧
    ∀ tr x, k (s.withOutput tr x) = .next (t.withOutput (tr ++ es) (lastBusByte x es))

/-- A register write followed by one emission is blind, if neither looks at the trace or the ghost. -/
theorem outputBlind_of_eq_emit {f : State → State} (w : State → State) (e : State → List Event)
    (hf : ∀ s, f s = (w s).emit (e s)) (hw : ∀ s tr x, w (s.withOutput tr x) = (w s).withOutput tr x)
    (htrace : ∀ s, (w s).trace = s.trace) (he : ∀ s tr x, e (s.withOutput tr x) = e s) : OutputBlind f := by
  intro s
  refine ⟨e s, by rw [hf, State.emit_trace, htrace], fun tr x => ?_⟩
  rw [hf, hf, hw, he]
  rfl

theorem outputBlind_emit (e : State → List Event) (he : ∀ s tr x, e (s.withOutput tr x) = e s) :
    OutputBlind fun s => s.emit (e s) :=
  outputBlind_of_eq_emit id e (fun _ => rfl) (fun _ _ _ => rfl) (fun _ => rfl) he

theorem outputBlind_sendByte (v : State → Byte) (isData : Bool) (hv : ∀ s tr x, v (s.withOutput tr x) = v s) :
    OutputBlind fun s => s.sendByte (v s) isData :=
  outputBlind_emit (fun s => sendByteEvents s.config s.backlightState (v s) isData) fun s tr x => by rw [hv]; rfl

theorem outputBlind_writeNibble (nb : Byte) : OutputBlind fun s => s.writeNibble nb :=
  outputBlind_emit (fun s => writeNibbleEvents s.config s.backlightState nb) fun _ _ _ => rfl

theorem outputBlind_writeExpander (b : Byte) : OutputBlind fun s => s.writeExpander b :=
  outputBlind_emit (fun s => expanderWriteEvents s.backlightState b) fun _ _ _ => rfl

theorem outputBlind_withBacklight (on : Bool) : OutputBlind fun s => s.withBacklight on :=
  outputBlind_of_eq_emit (·.withBacklight on) (fun _ => []) (fun _ => (State.emit_nil _).symm) (fun _ _ _ => rfl)
    (fun _ => rfl) (fun _ _ _ => rfl)

/-- One change of the state after another. -/
theorem OutputBlind.comp {f g : State → State} (hg : OutputBlind g) (hf : OutputBlind f) :
    OutputBlind fun s => g (f s) := by
  intro s
  obtain ⟨es, hft, hfo⟩ := hf s
  obtain ⟨es', hgt, hgo⟩ := hg (f s)
  refine ⟨es ++ es', by rw [hgt, hft, List.append_assoc], fun tr x => ?_⟩
  change g (f (s.withOutput tr x)) = _
  rw [hfo, hgo, lastBusByte_append, List.append_assoc]

theorem outputBlind_wait (ns : Nat) : OutputBlind fun s => s.wait ns := outputBlind_emit _ fun _ _ _ => rfl

theorem outputBlind_writeAll (bytes : List Byte) : OutputBlind fun s => s.writeAll bytes :=
  outputBlind_of_eq_emit id (fun s => bytes.flatMap fun v => sendByteEvents s.config s.backlightState v true)
    (fun s => s.writeAll_eq bytes) (fun _ _ _ => rfl) (fun _ => rfl) fun _ _ _ => rfl

theorem outputBlind_updateControl (v : State → Byte) (hv : ∀ s tr x, v (s.withOutput tr x) = v s) :
    OutputBlind fun s => s.updateControl (v s) :=
  outputBlind_of_eq_emit (fun s => s.withControlFlags (v s))
    (fun s => sendByteEvents s.config s.backlightState (displayControlCommand s.config (v s)) false)
    (fun _ => rfl) (fun s tr x => by rw [hv]; rfl) (fun _ => rfl) fun s tr x => by rw [hv]; rfl

theorem outputBlind_updateMode (v : State → Byte) (hv : ∀ s tr x, v (s.withOutput tr x) = v s) :
    OutputBlind fun s => s.updateMode (v s) :=
  outputBlind_of_eq_emit (fun s => s.withModeFlags (v s))
    (fun s => sendByteEvents s.config s.backlightState (entryModeCommand s.config (v s)) false)
    (fun _ => rfl) (fun s tr x => by rw [hv]; rfl) (fun _ => rfl) fun s tr x => by rw [hv]; rfl

theorem outputBlind_initHandshake : OutputBlind initHandshake :=
  outputBlind_of_eq_emit _ _ initHandshake_eq (fun _ _ _ => rfl) (fun _ => rfl) fun _ _ _ => rfl

theorem outputBlind_withGeometry (columns lines fontVariant : Byte) :
    OutputBlind fun s => s.withGeometry columns lines fontVariant :=
  outputBlind_of_eq_emit (·.withGeometry columns lines fontVariant) (fun _ => []) (fun _ => (State.emit_nil _).symm)
    (fun _ _ _ => rfl) (fun _ => rfl) (fun _ _ _ => rfl)

/-- An operation that always runs is blind if its change of the state is. -/
theorem OutputBlind.next {f : State → State} (hf : OutputBlind f) : AnswersBlind fun s => .next (f s) := by
  intro s t h
  cases h
  obtain ⟨es, htrace, hout⟩ := hf s
  exact ⟨es, htrace, fun tr x => congrArg Host.Outcome.next (hout tr x)⟩

theorem answersBlind_refused (r : Refusal) : AnswersBlind fun _ => .refused r := fun _ _ h => nomatch h

/-- A choice made on the operands alone. -/
theorem AnswersBlind.ite {k k' : State → Result} (p : Prop) [Decidable p] (hk : AnswersBlind k)
    (hk' : AnswersBlind k') : AnswersBlind fun s => if p then k s else k' s := by
  by_cases hp : p
  · simpa only [if_pos hp] using hk
  · simpa only [if_neg hp] using hk'

/-- A choice made on a value of the registers is blind if the operation is blind at each value. -/
theorem AnswersBlind.of_cases {α : Type} {k : State → Result} (g : State → α)
    (hg : ∀ s tr x, g (s.withOutput tr x) = g s)
    (hk : ∀ a, ∃ k', AnswersBlind k' ∧ ∀ s, g s = a → k s = k' s) : AnswersBlind k := by
  intro s t h
  obtain ⟨k', hblind, heq⟩ := hk (g s)
  obtain ⟨es, htrace, hout⟩ := hblind s t ((heq s rfl).symm.trans h)
  exact ⟨es, htrace, fun tr x => (heq _ (hg s tr x)).trans (hout tr x)⟩

theorem AnswersBlind.whenReady {k : State → Result} (hk : AnswersBlind k) :
    AnswersBlind fun s => whenReady s (k s) := by
  refine .of_cases State.phase (fun _ _ _ => rfl) fun p => ?_
  cases p with
  | ready => exact ⟨k, hk, fun s hp => whenReady_ready hp (k s)⟩
  | unconfigured => exact ⟨_, answersBlind_refused _, fun s hp => whenReady_unconfigured hp (k s)⟩

theorem answersBlind_configure (columns lines fontVariant : Byte) :
    AnswersBlind (execConfigure columns lines fontVariant) := by
  refine .of_cases State.phase (fun _ _ _ => rfl) fun p => ?_
  cases p with
  | ready => exact ⟨_, answersBlind_refused .configureTwice, fun s hp => by simp [execConfigure, hp]⟩
  | unconfigured =>
    have hrun := (outputBlind_initHandshake.comp (outputBlind_withGeometry columns lines fontVariant)).next
    exact ⟨_, hrun.ite (linesLegal lines = true) (answersBlind_refused .linesOutOfRange), fun s hp => by
      simp [execConfigure, hp]⟩

theorem answersBlind_setCursor (col row : Byte) : AnswersBlind (execSetCursor col row) := by
  refine .whenReady (.of_cases (fun s => ddramCommand s.config s.lineCount col row) (fun _ _ _ => rfl) fun cmd => ?_)
  cases cmd with
  | none => exact ⟨_, answersBlind_refused .linesOutOfRange, fun s hv => by simp [hv]⟩
  | some v => exact ⟨_, (outputBlind_sendByte (fun _ => v) false fun _ _ _ => rfl).next, fun s hv => by
      simp [hv, State.command]⟩

theorem answersBlind_createChar (slot : Byte) (rows : List Byte) : AnswersBlind (execCreateChar slot rows) := by
  refine AnswersBlind.whenReady (.ite _ ?_ (answersBlind_refused _))
  intro s t h
  exact ((outputBlind_writeAll (if s.config.cgramWriteRows then rows else [])).comp
    (outputBlind_sendByte (fun _ => cgramCommand slot) false fun _ _ _ => rfl)).next s t h

/-- Every instruction is blind to the trace and the ghost. -/
theorem exec_answersBlind (i : Instr) : AnswersBlind (exec i) := by
  cases i with
  | configure columns lines fontVariant => exact answersBlind_configure columns lines fontVariant
  | clear | home =>
    exact ((outputBlind_wait _).comp (outputBlind_sendByte _ _ fun _ _ _ => rfl)).next.whenReady
  | setCursor col row => exact answersBlind_setCursor col row
  | displayOn | displayOff | cursorOn | cursorOff | blinkOn | blinkOff =>
    exact (outputBlind_updateControl _ fun _ _ _ => rfl).next.whenReady
  | scrollLeft | scrollRight => exact (outputBlind_sendByte _ _ fun _ _ _ => rfl).next.whenReady
  | leftToRight | rightToLeft | autoscrollOn | autoscrollOff =>
    exact (outputBlind_updateMode _ fun _ _ _ => rfl).next.whenReady
  | createChar slot rows => exact answersBlind_createChar slot rows
  | backlightOn | backlightOff => exact (outputBlind_withBacklight _).next.whenReady
  | print buffer size =>
    exact .whenReady (.ite _ (answersBlind_refused _)
      (.ite _ (answersBlind_refused _) (outputBlind_writeAll _).next))
  | writeNibble | initNibble8Bit | initNibble4Bit | nibbleByte => exact (outputBlind_writeNibble _).next
  | expanderWrite | expanderByte => exact (outputBlind_writeExpander _).next
  | sendByte | clearDisplay | returnHome | entryModeSet | displayControl | cursorShift | functionSet | setCgramAddr
  | setDdramAddr | dataByte => exact (outputBlind_sendByte _ _ fun _ _ _ => rfl).next

/-- Settles O45: every instruction appends events chosen by the registers alone, so what it adds is the same beside any
trace and ghost. -/
theorem blockNeverReadsItsOutput : Obligations.BlockNeverReadsItsOutput := by
  intro i s t tr x h
  obtain ⟨es, htrace, hout⟩ := exec_answersBlind i s t h
  have hadded : added s t = es := by rw [added, htrace, List.drop_left]
  rw [hadded]
  exact hout tr x

end Sys2Proof.Machine
end

section
/-! PROOFS. The step: it runs the operation the host presents next (00_scope R9, 10_state R28). -/

namespace Sys2Proof.Machine

/-- A fetch takes the first request that decodes. -/
theorem fetch_of_decode {s : State} {r : Request} {rest : List Request} {i : Instr} (hp : s.program = r :: rest)
    (hd : decodeOpSelect r = .ok i) : fetch s = .run i (s.withProgram rest) := by
  simp [fetch, hp, hd]

/-- Settles O2: the fetch takes the request, and the step runs what it decodes to. -/
theorem stepRunsTheDecodedOperation : Obligations.StepRunsTheDecodedOperation := by
  intro s r rest i hp hd
  rw [step, fetch_of_decode hp hd]
  rfl

/-- The command side reads no internal operation and no emitted byte (60_exceptions R121). -/
theorem isHost_of_decodeOpSelect {r : Request} {i : Instr} (h : decodeOpSelect r = .ok i) : i.isHost = true := by
  unfold decodeOpSelect at h
  split at h <;> cases h <;> rfl

end Sys2Proof.Machine
end

section
/-! PROOFS. Legal states: which events and which flag values are legal (20_memory R37, R49, 10_state R19 to R21), and
that power-on is legal and every step keeps it (00_scope R13). -/

namespace Sys2Proof.Safety

open Sys2Proof.Machine

@[simp] theorem all_eventLegal_expanderWriteEvents (on : Bool) (b : Byte) :
    (expanderWriteEvents on b).all eventLegal = !b.getLsbD 1 := by
  cases on <;> simp [expanderWriteEvents, eventLegal, deviceAddress, backlightBit, xbBl]

@[simp] theorem all_eventLegal_writeNibbleEvents (c : Config) (on : Bool) (nb : Byte) :
    (writeNibbleEvents c on nb).all eventLegal = !nb.getLsbD 1 := by
  simp [writeNibbleEvents, eventLegal, xbEn]

/-- Both nibble bytes have the read/write bit clear, whatever the value is. -/
@[simp] theorem all_eventLegal_sendByteEvents (c : Config) (on : Bool) (v : Byte) (isData : Bool) :
    (sendByteEvents c on v isData).all eventLegal = true := by
  cases isData <;> simp [sendByteEvents, highNibbleByte, lowNibbleByte, registerSelect, xbData, xbRs]

theorem all_eventLegal_handshakeOf (c : Config) (on : Bool) (fs : Byte) :
    (handshakeOf c on fs).all eventLegal = true := by
  simp [handshakeOf, eventLegal, initNibble8BitByte, initNibble4BitByte]

/-- Setting a flag of a register keeps all its other bits 0. -/
theorem setFlag_within {register mask allowed : Byte} (hr : register &&& ~~~allowed = 0#8)
    (hm : mask &&& ~~~allowed = 0#8) : setFlag register mask &&& ~~~allowed = 0#8 := by
  rw [setFlag, BitVec.and_or_distrib_right, hr, hm]
  rfl

/-- Clearing a flag of a register keeps all its other bits 0. -/
theorem clearFlag_within {register allowed : Byte} (mask : Byte) (hr : register &&& ~~~allowed = 0#8) :
    clearFlag register mask &&& ~~~allowed = 0#8 := by
  rw [clearFlag, BitVec.and_assoc, BitVec.and_comm (~~~mask), ← BitVec.and_assoc, hr, BitVec.zero_and]

theorem within_or_of_left {a b : Byte} (m : Byte) (h : m &&& ~~~a = 0#8) : m &&& ~~~(a ||| b) = 0#8 := by
  rw [BitVec.not_or, ← BitVec.and_assoc, h, BitVec.zero_and]

theorem within_or_of_right {a b : Byte} (m : Byte) (h : m &&& ~~~b = 0#8) : m &&& ~~~(a ||| b) = 0#8 := by
  rw [BitVec.or_comm, within_or_of_left m h]

theorem masks_within_or (a b : Byte) : a &&& ~~~(a ||| b) = 0#8 ∧ b &&& ~~~(a ||| b) = 0#8 :=
  ⟨within_or_of_left a a.and_not_self, within_or_of_right b b.and_not_self⟩

/-- Two different masks of one bit each share no bit. -/
theorem and_eq_zero_of_isSingleBit {a b : Byte} (ha : isSingleBit a = true) (hb : isSingleBit b = true) (h : a ≠ b) :
    a &&& b = 0#8 := by
  have key : ∀ i j : Fin 8, 1#8 <<< i.val ≠ 1#8 <<< j.val → 1#8 <<< i.val &&& 1#8 <<< j.val = 0#8 := by decide
  simp only [isSingleBit, List.any_eq_true, List.mem_range, beq_iff_eq] at ha hb
  obtain ⟨i, hi, rfl⟩ := ha
  obtain ⟨j, hj, rfl⟩ := hb
  exact key ⟨i, hi⟩ ⟨j, hj⟩ h

/-- Lawful function-set flags: neither the two-line flag nor the font flag is the 8-bit flag (00_scope R13). -/
theorem configLawful_flag8Bit_disjoint {c : Config} (h : configLawful c = true) :
    c.flag2Line &&& c.flag8Bit = 0#8 ∧ c.flag5x10 &&& c.flag8Bit = 0#8 := by
  simp only [configLawful, Bool.and_eq_true, List.all_eq_true] at h
  obtain ⟨⟨⟨⟨-, hgroups⟩, -⟩, -⟩, -⟩ := h
  obtain ⟨hmasks, hnodup⟩ := hgroups (c.cmdFunctionSet, [c.flag8Bit, c.flag2Line, c.flag5x10]) (by simp [flagGroups])
  have hbit : ∀ m ∈ [c.flag8Bit, c.flag2Line, c.flag5x10], isSingleBit m = true := fun m hm => (hmasks m hm).1
  simp only [decide_eq_true_eq, List.nodup_cons, List.mem_cons, not_or] at hnodup
  obtain ⟨⟨h2, h5, -⟩, -⟩ := hnodup
  exact ⟨and_eq_zero_of_isSingleBit (hbit _ (by simp)) (hbit _ (by simp)) (Ne.symm h2),
    and_eq_zero_of_isSingleBit (hbit _ (by simp)) (hbit _ (by simp)) (Ne.symm h5)⟩

/-- Without the 8-bit flag, as `CONFIGURE` sets the register up (10_state R19, 41_configure_init R79). -/
theorem configuredFunctionFlags_fourBit {c : Config} (h : configLawful c = true) (lines fontVariant : Byte) :
    configuredFunctionFlags c lines fontVariant &&& c.flag8Bit = 0#8 := by
  obtain ⟨h2, h5⟩ := configLawful_flag8Bit_disjoint h
  rw [configuredFunctionFlags, BitVec.and_or_distrib_right]
  split <;> split <;> simp [h2, h5]

/-- Two-line for two lines and more; with one line, either font (10_state R19). -/
theorem configuredFunctionFlags_cases (c : Config) (lines fontVariant : Byte) :
    configuredFunctionFlags c lines fontVariant = (if 1 < lines.toNat then c.flag2Line else 0#8) ∨
      (lines.toNat = 1 ∧ configuredFunctionFlags c lines fontVariant = c.flag5x10) := by
  by_cases hfont : fontVariant ≠ 0#8 ∧ lines.toNat = 1
  · exact .inr ⟨hfont.2, by simp [configuredFunctionFlags, hfont]⟩
  · exact .inl (by simp only [configuredFunctionFlags, if_neg hfont, BitVec.or_zero])

/-- The bits `controlFlags` may hold (10_state R20). -/
def controlMask (c : Config) : Byte := c.flagDisplayOn ||| c.flagCursorOn ||| c.flagBlinkOn

/-- The bits `modeFlags` may hold (10_state R21). -/
def modeMask (c : Config) : Byte := c.flagEntryLeft ||| c.flagShiftIncrement

theorem flagDisplayOn_within (c : Config) : c.flagDisplayOn &&& ~~~controlMask c = 0#8 :=
  within_or_of_left _ (masks_within_or ..).1

theorem flagCursorOn_within (c : Config) : c.flagCursorOn &&& ~~~controlMask c = 0#8 :=
  within_or_of_left _ (masks_within_or ..).2

theorem flagBlinkOn_within (c : Config) : c.flagBlinkOn &&& ~~~controlMask c = 0#8 := (masks_within_or ..).2

theorem flagEntryLeft_within (c : Config) : c.flagEntryLeft &&& ~~~modeMask c = 0#8 := (masks_within_or ..).1

theorem flagShiftIncrement_within (c : Config) : c.flagShiftIncrement &&& ~~~modeMask c = 0#8 :=
  (masks_within_or ..).2

section Rules

variable {s : State}

/-- Whether the registers are legal depends on the parameters, the line count and the three flag registers alone. -/
theorem RegistersLegal.frame (h : RegistersLegal s) (p : Phase) (columns : Byte) (on : Bool) (x : Byte)
    (tr : List Event) (reqs : List Request) :
    RegistersLegal { s with phase := p, columnCount := columns, backlightState := on, xlatch := x, trace := tr,
                            program := reqs } :=
  ⟨h.lineCount, h.functionFlags, h.fourBit, h.controlFlags, h.modeFlags⟩

/-- Legal events may be emitted once the block is configured. -/
theorem Legal.emit (h : Legal s) (hr : s.phase = .ready) {es : List Event} (hes : es.all eventLegal = true) :
    Legal (s.emit es) where
  config := h.config
  registers _ := (h.registers hr).frame ..
  silent hu := by simp [hr] at hu
  events := by rw [State.emit_trace, List.all_append, h.events, hes]; rfl

theorem Legal.sendByte (h : Legal s) (hr : s.phase = .ready) (v : Byte) (isData : Bool) :
    Legal (s.sendByte v isData) := h.emit hr (all_eventLegal_sendByteEvents ..)

theorem Legal.command (h : Legal s) (hr : s.phase = .ready) (v : Byte) : Legal (s.command v) := h.sendByte hr v false

theorem Legal.wait (h : Legal s) (hr : s.phase = .ready) (ns : Nat) : Legal (s.wait ns) := h.emit hr rfl

theorem Legal.writeAll (h : Legal s) (hr : s.phase = .ready) (bytes : List Byte) : Legal (s.writeAll bytes) := by
  induction bytes generalizing s with
  | nil => exact h
  | cons v rest ih => exact ih (h.sendByte hr v true) hr

theorem Legal.withProgram (h : Legal s) (p : List Request) : Legal (s.withProgram p) :=
  ⟨h.config, fun hr => (h.registers hr).frame .., h.silent, h.events⟩

theorem Legal.withBacklight (h : Legal s) (on : Bool) : Legal (s.withBacklight on) :=
  ⟨h.config, fun hr => (h.registers hr).frame .., h.silent, h.events⟩

theorem Legal.updateControl (h : Legal s) (hr : s.phase = .ready) {v : Byte}
    (hv : v &&& ~~~controlMask s.config = 0#8) : Legal (s.updateControl v) := by
  have hw : Legal (s.withControlFlags v) :=
    have regs := h.registers hr
    ⟨h.config, fun _ => ⟨regs.lineCount, regs.functionFlags, regs.fourBit, hv, regs.modeFlags⟩, h.silent, h.events⟩
  exact hw.command hr _

theorem Legal.updateMode (h : Legal s) (hr : s.phase = .ready) {v : Byte}
    (hv : v &&& ~~~modeMask s.config = 0#8) : Legal (s.updateMode v) := by
  have hw : Legal (s.withModeFlags v) :=
    have regs := h.registers hr
    ⟨h.config, fun _ => ⟨regs.lineCount, regs.functionFlags, regs.fourBit, regs.controlFlags, hv⟩, h.silent, h.events⟩
  exact hw.command hr _

theorem Legal.setControl (h : Legal s) (hr : s.phase = .ready) {m : Byte} (hm : m &&& ~~~controlMask s.config = 0#8) :
    Legal (s.updateControl (setFlag s.controlFlags m)) :=
  h.updateControl hr (setFlag_within (h.registers hr).controlFlags hm)

theorem Legal.clearControl (h : Legal s) (hr : s.phase = .ready) (m : Byte) :
    Legal (s.updateControl (clearFlag s.controlFlags m)) :=
  h.updateControl hr (clearFlag_within m (h.registers hr).controlFlags)

theorem Legal.setMode (h : Legal s) (hr : s.phase = .ready) {m : Byte} (hm : m &&& ~~~modeMask s.config = 0#8) :
    Legal (s.updateMode (setFlag s.modeFlags m)) :=
  h.updateMode hr (setFlag_within (h.registers hr).modeFlags hm)

theorem Legal.clearMode (h : Legal s) (hr : s.phase = .ready) (m : Byte) :
    Legal (s.updateMode (clearFlag s.modeFlags m)) :=
  h.updateMode hr (clearFlag_within m (h.registers hr).modeFlags)

/-- `CONFIGURE` gives every register a legal value and emits legal events (10_state R34, 41_configure_init R89). -/
theorem Legal.initHandshake_withGeometry (h : Legal s) {lines : Byte} (hl : linesLegal lines = true)
    (columns fontVariant : Byte) : Legal (initHandshake (s.withGeometry columns lines fontVariant)) := by
  have hlines : 1 ≤ lines.toNat ∧ lines.toNat ≤ 4 := by simpa [linesLegal] using hl
  rw [initHandshake_eq]
  refine ⟨h.config, fun _ => ⟨hlines, ?_, ?_, flagDisplayOn_within s.config, flagEntryLeft_within s.config⟩, nofun, ?_⟩
  · simpa [functionFlagsOf_eq] using configuredFunctionFlags_cases s.config lines fontVariant
  · simpa [functionFlagsOf_eq] using configuredFunctionFlags_fourBit h.config lines fontVariant
  · rw [State.emit_trace, List.all_append, all_eventLegal_handshakeOf, Bool.and_true]
    exact h.events

end Rules

/-- An operation that gives a legal state from every legal one. -/
def KeepsLegal (k : State → Result) : Prop := ∀ s t, Legal s → k s = .next t → Legal t

/-- Behind the phase gate, an operation need keep a configured block legal. -/
theorem keepsLegal_whenReady {k : State → Result}
    (hk : ∀ s t, Legal s → s.phase = .ready → k s = .next t → Legal t) : KeepsLegal fun s => whenReady s (k s) := by
  intro s t hs h
  obtain ⟨hr, h⟩ := whenReady_next_iff.mp h
  exact hk s t hs hr h

theorem keepsLegal_whenReady_next {f : State → State} (hf : ∀ s, Legal s → s.phase = .ready → Legal (f s)) :
    KeepsLegal fun s => whenReady s (.next (f s)) :=
  keepsLegal_whenReady fun s t hs hr h => by
    cases h
    exact hf s hs hr

theorem keepsLegal_configure (columns lines fontVariant : Byte) :
    KeepsLegal (execConfigure columns lines fontVariant) := by
  intro s t hs h
  unfold execConfigure at h
  split at h
  · cases h
  · split at h <;> cases h
    exact hs.initHandshake_withGeometry ‹_› columns fontVariant

theorem keepsLegal_setCursor (col row : Byte) : KeepsLegal (execSetCursor col row) :=
  keepsLegal_whenReady fun s t hs hr h => by
    split at h <;> cases h
    exact hs.command hr _

theorem keepsLegal_createChar (slot : Byte) (rows : List Byte) : KeepsLegal (execCreateChar slot rows) :=
  keepsLegal_whenReady fun s t hs hr h => by
    split at h <;> cases h
    exact (hs.command hr _).writeAll hr _

theorem keepsLegal_print (buffer : List Byte) (size : Nat) : KeepsLegal (execPrint buffer size) :=
  keepsLegal_whenReady fun s t hs hr h => by
    split at h
    · cases h
    · split at h <;> cases h
      exact hs.writeAll hr _

/-- Each of the twenty host operations keeps legality. -/
theorem exec_keepsLegal {i : Instr} (hi : i.isHost = true) : KeepsLegal (exec i) := by
  cases i with
  | configure columns lines fontVariant => exact keepsLegal_configure columns lines fontVariant
  | clear | home => exact keepsLegal_whenReady_next fun s hs hr => (hs.command hr _).wait hr _
  | setCursor col row => exact keepsLegal_setCursor col row
  | displayOn => exact keepsLegal_whenReady_next fun s hs hr => hs.setControl hr (flagDisplayOn_within _)
  | cursorOn => exact keepsLegal_whenReady_next fun s hs hr => hs.setControl hr (flagCursorOn_within _)
  | blinkOn => exact keepsLegal_whenReady_next fun s hs hr => hs.setControl hr (flagBlinkOn_within _)
  | displayOff | cursorOff | blinkOff => exact keepsLegal_whenReady_next fun s hs hr => hs.clearControl hr _
  | scrollLeft | scrollRight => exact keepsLegal_whenReady_next fun s hs hr => hs.command hr _
  | leftToRight => exact keepsLegal_whenReady_next fun s hs hr => hs.setMode hr (flagEntryLeft_within _)
  | autoscrollOn => exact keepsLegal_whenReady_next fun s hs hr => hs.setMode hr (flagShiftIncrement_within _)
  | rightToLeft | autoscrollOff => exact keepsLegal_whenReady_next fun s hs hr => hs.clearMode hr _
  | createChar slot rows => exact keepsLegal_createChar slot rows
  | backlightOn | backlightOff => exact keepsLegal_whenReady_next fun s hs hr => hs.withBacklight _
  | print buffer size => exact keepsLegal_print buffer size
  | _ => cases hi

/-- Settles O57: a step is idle or runs a host operation, and each of the twenty keeps legality. -/
theorem stepKeepsStateLegal : Obligations.StepKeepsStateLegal := by
  intro s t hs h
  rcases step_next_cases h with ⟨-, rfl⟩ | ⟨r, rest, i, -, hd, hexec⟩
  · exact hs
  · exact exec_keepsLegal (isHost_of_decodeOpSelect hd) _ t (hs.withProgram rest) hexec

/-- Settles O55, by evaluating the constraints on the default values. -/
theorem defaultParametersAreLawful : Obligations.DefaultParametersAreLawful := by
  unfold Obligations.DefaultParametersAreLawful
  decide

/-- Settles O56: before `CONFIGURE` the registers owe nothing and the trace is empty. -/
theorem powerOnIsLegal : Obligations.PowerOnIsLegal where
  config := defaultParametersAreLawful
  registers := nofun
  silent _ := rfl
  events := rfl

end Sys2Proof.Safety
end

section
/-! PROOFS. What an instruction that answers a next state did, said once: the registers it wrote and the bytes it sent
(30_encoding R65, "Registers written"). -/

namespace Sys2Proof.Machine

open Sys2Proof.Safety

/-- The events of some bytes sent one after another, each to the register its flag selects (40_transport R75). -/
def transmit (c : Config) (on : Bool) (sent : List (Bool × Byte)) : List Event :=
  sent.flatMap fun p => sendByteEvents c on p.2 p.1

theorem State.sendByte_eq_transmit (s : State) (v : Byte) (isData : Bool) :
    s.sendByte v isData = s.emit (transmit s.config s.backlightState [(isData, v)]) := by
  simp [transmit, State.sendByte]

theorem State.writeAll_eq_transmit (s : State) (bytes : List Byte) :
    s.writeAll bytes = s.emit (transmit s.config s.backlightState (bytes.map (true, ·))) := by
  rw [State.writeAll_eq, transmit, List.flatMap_map]

/-- Give a flag a value in its register (42_display_commands R95, R104). -/
def moveFlag (on : Bool) (register mask : Byte) : Byte :=
  if on then setFlag register mask else clearFlag register mask

/-- The mask each flag operation moves, and the value it gives it (42_display_commands R96 to R101, R105 to R108). -/
def flagMaskOf (c : Config) : Instr → Option (Byte × Bool)
  | .displayOn => some (c.flagDisplayOn, true)
  | .displayOff => some (c.flagDisplayOn, false)
  | .cursorOn => some (c.flagCursorOn, true)
  | .cursorOff => some (c.flagCursorOn, false)
  | .blinkOn => some (c.flagBlinkOn, true)
  | .blinkOff => some (c.flagBlinkOn, false)
  | .leftToRight => some (c.flagEntryLeft, true)
  | .rightToLeft => some (c.flagEntryLeft, false)
  | .autoscrollOn => some (c.flagShiftIncrement, true)
  | .autoscrollOff => some (c.flagShiftIncrement, false)
  | _ => none

/-- The command bytes an operation sends that carry no flag register (30_encoding R59, R70). -/
inductive FlaglessCommand (c : Config) : Byte → Prop where
  | clear : FlaglessCommand c c.cmdClearDisplay
  | home : FlaglessCommand c c.cmdReturnHome
  | shift (right : Bool) : FlaglessCommand c (cursorShiftCommand c true right)
  | cgram (slot : Byte) : FlaglessCommand c (cgramCommand slot)
  | ddram (address : Byte) : FlaglessCommand c (c.cmdSetDdramAddr ||| address)

/-- What an instruction does to the state where it answers a next one. -/
inductive Effect : Instr → State → State → Prop where
  /-- `CONFIGURE` writes every register and runs the handshake (41_configure_init R89). -/
  | configure {columns lines fontVariant : Byte} {s : State} :
      s.phase = .unconfigured → linesLegal lines = true →
      Effect (.configure columns lines fontVariant) s (initHandshake (s.withGeometry columns lines fontVariant))
  /-- A control operation moves one flag and sends the register (42_display_commands R95). -/
  | control {i : Instr} {s : State} {mask : Byte} {on : Bool} :
      isControlOp i = true → flagMaskOf s.config i = some (mask, on) → s.phase = .ready →
      Effect i s (s.updateControl (moveFlag on s.controlFlags mask))
  /-- A mode operation moves one flag and sends the register (R104). -/
  | mode {i : Instr} {s : State} {mask : Byte} {on : Bool} :
      isModeOp i = true → flagMaskOf s.config i = some (mask, on) → s.phase = .ready →
      Effect i s (s.updateMode (moveFlag on s.modeFlags mask))
  /-- A backlight operation writes its register and emits nothing (43 R110, R111). -/
  | backlight {i : Instr} {s : State} (on : Bool) :
      isBacklightOp i = true → s.phase = .ready → Effect i s (s.withBacklight on)
  /-- Bytes are sent, no command among them carrying a flag register, and waits follow: every other host operation. -/
  | send {i : Instr} {s : State} (sent : List (Bool × Byte)) (waits : List Nat) :
      s.phase = .ready → (∀ v, (false, v) ∈ sent → FlaglessCommand s.config v) →
      Effect i s (s.emit (transmit s.config s.backlightState sent ++ waits.map .delay))
  /-- An internal operation or an emitted row writes no register (40_transport R73 to R75). -/
  | internal {i : Instr} {s : State} (events : List Event) : i.isHost = false → Effect i s (s.emit events)

theorem exec_controlOp_next {i : Instr} {s t : State} (hi : isControlOp i = true) (h : exec i s = .next t) :
    s.phase = .ready ∧ ∃ mask on, flagMaskOf s.config i = some (mask, on) ∧
      t = s.updateControl (moveFlag on s.controlFlags mask) := by
  cases i with
  | displayOn | displayOff | cursorOn | cursorOff | blinkOn | blinkOff =>
    obtain ⟨hr, h⟩ := whenReady_next_iff.mp h
    cases h
    exact ⟨hr, _, _, rfl, rfl⟩
  | _ => cases hi

theorem exec_modeOp_next {i : Instr} {s t : State} (hi : isModeOp i = true) (h : exec i s = .next t) :
    s.phase = .ready ∧ ∃ mask on, flagMaskOf s.config i = some (mask, on) ∧
      t = s.updateMode (moveFlag on s.modeFlags mask) := by
  cases i with
  | leftToRight | rightToLeft | autoscrollOn | autoscrollOff =>
    obtain ⟨hr, h⟩ := whenReady_next_iff.mp h
    cases h
    exact ⟨hr, _, _, rfl, rfl⟩
  | _ => cases hi

theorem execConfigure_next {columns lines fontVariant : Byte} {s t : State}
    (h : execConfigure columns lines fontVariant s = .next t) :
    s.phase = .unconfigured ∧ linesLegal lines = true ∧
      t = initHandshake (s.withGeometry columns lines fontVariant) := by
  unfold execConfigure at h
  split at h
  · cases h
  · split at h <;> cases h
    exact ⟨‹_›, ‹_›, rfl⟩

theorem ddramCommand_eq_or {c : Config} {lineCount col row v : Byte} (h : ddramCommand c lineCount col row = some v) :
    ∃ address, v = c.cmdSetDdramAddr ||| address := by
  unfold ddramCommand at h
  split at h
  · obtain ⟨offset, -, rfl⟩ := Option.map_eq_some_iff.mp h
    exact ⟨_, rfl⟩
  · cases h

section Sends

variable {i : Instr} {s : State}

/-- One flagless command, and no wait after it. -/
theorem Effect.command (hr : s.phase = .ready) {v : Byte} (hv : FlaglessCommand s.config v) :
    Effect i s (s.command v) := by
  rw [State.command, State.sendByte_eq_transmit, ← List.append_nil (transmit ..)]
  exact .send [(false, v)] [] hr (by simpa using hv)

/-- One flagless command and a wait. -/
theorem Effect.commandWait (hr : s.phase = .ready) {v : Byte} (hv : FlaglessCommand s.config v) (ns : Nat) :
    Effect i s ((s.command v).wait ns) := by
  rw [State.command, State.sendByte_eq_transmit, State.wait, State.emit_emit]
  exact .send [(false, v)] [ns] hr (by simpa using hv)

/-- Data bytes alone. -/
theorem Effect.writeAll (hr : s.phase = .ready) (bytes : List Byte) : Effect i s (s.writeAll bytes) := by
  rw [State.writeAll_eq_transmit, ← List.append_nil (transmit ..)]
  exact .send _ [] hr (by simp)

/-- One flagless command and data bytes after it. -/
theorem Effect.commandWriteAll (hr : s.phase = .ready) {v : Byte} (hv : FlaglessCommand s.config v)
    (bytes : List Byte) : Effect i s ((s.command v).writeAll bytes) := by
  have heq : (s.command v).writeAll bytes =
      s.emit (transmit s.config s.backlightState ((false, v) :: bytes.map (true, ·)) ++ ([] : List Nat).map .delay) := by
    rw [State.command, State.sendByte_eq_transmit, State.writeAll_eq_transmit, State.emit_emit]
    simp [transmit]
  rw [heq]
  exact .send _ [] hr (by simpa using hv)

end Sends

theorem execSetCursor_next {col row : Byte} {s t : State} (h : execSetCursor col row s = .next t) :
    s.phase = .ready ∧ ∃ v, ddramCommand s.config s.lineCount col row = some v ∧ t = s.command v := by
  obtain ⟨hr, h⟩ := whenReady_next_iff.mp h
  split at h <;> cases h
  exact ⟨hr, _, ‹_›, rfl⟩

theorem execCreateChar_next {slot : Byte} {rows : List Byte} {s t : State} (h : execCreateChar slot rows s = .next t) :
    s.phase = .ready ∧
      t = (s.command (cgramCommand slot)).writeAll (if s.config.cgramWriteRows then rows else []) := by
  obtain ⟨hr, h⟩ := whenReady_next_iff.mp h
  split at h <;> cases h
  exact ⟨hr, rfl⟩

theorem execPrint_next {buffer : List Byte} {size : Nat} {s t : State} (h : execPrint buffer size s = .next t) :
    s.phase = .ready ∧ t = s.writeAll (buffer.take (size - 1)) := by
  obtain ⟨hr, h⟩ := whenReady_next_iff.mp h
  split at h
  · cases h
  · split at h <;> cases h
    exact ⟨hr, rfl⟩

/-- Every instruction that answers a next state has one of the six effects. -/
theorem exec_effect {i : Instr} {s t : State} (h : exec i s = .next t) : Effect i s t := by
  cases i with
  | configure columns lines fontVariant =>
    obtain ⟨hu, hl, rfl⟩ := execConfigure_next h
    exact .configure hu hl
  | displayOn | displayOff | cursorOn | cursorOff | blinkOn | blinkOff =>
    obtain ⟨hr, mask, on, hm, rfl⟩ := exec_controlOp_next rfl h
    exact .control rfl hm hr
  | leftToRight | rightToLeft | autoscrollOn | autoscrollOff =>
    obtain ⟨hr, mask, on, hm, rfl⟩ := exec_modeOp_next rfl h
    exact .mode rfl hm hr
  | backlightOn | backlightOff =>
    obtain ⟨hr, h⟩ := whenReady_next_iff.mp h
    cases h
    exact .backlight _ rfl hr
  | clear =>
    obtain ⟨hr, h⟩ := whenReady_next_iff.mp h
    cases h
    exact .commandWait hr .clear _
  | home =>
    obtain ⟨hr, h⟩ := whenReady_next_iff.mp h
    cases h
    exact .commandWait hr .home _
  | setCursor col row =>
    obtain ⟨hr, v, hv, rfl⟩ := execSetCursor_next h
    obtain ⟨address, rfl⟩ := ddramCommand_eq_or hv
    exact .command hr (.ddram address)
  | scrollLeft | scrollRight =>
    obtain ⟨hr, h⟩ := whenReady_next_iff.mp h
    cases h
    exact .command hr (.shift _)
  | createChar slot rows =>
    obtain ⟨hr, rfl⟩ := execCreateChar_next h
    exact .commandWriteAll hr (.cgram slot) _
  | print buffer size =>
    obtain ⟨hr, rfl⟩ := execPrint_next h
    exact .writeAll hr _
  | _ =>
    cases h
    exact .internal _ rfl

/-- Settles O38: each of the six effects writes the registers its operations are named for, and no other. -/
theorem onlyTheNamedOperationsWriteARegister : Obligations.OnlyTheNamedOperationsWriteARegister := by
  intro i s t h
  cases exec_effect h with
  | configure hu hl => simp [initHandshake_eq, isConfigure]
  | control hi hm hr =>
    simp [State.updateControl, State.flushControl, State.command, State.sendByte, hi]
  | mode hi hm hr =>
    simp [State.updateMode, State.flushMode, State.command, State.sendByte, hi]
  | backlight on hi hr => simp [hi]
  | send | internal => simp

/-- Settles O39: an instruction is blind to the trace and the ghost (O45), so beside its own it answers what it answers. -/
theorem traceOnlyGrows : Obligations.TraceOnlyGrows := by
  intro i s t h
  have hsame : t = { t with trace := s.trace ++ added s t, xlatch := lastBusByte s.xlatch (added s t) } :=
    Host.Outcome.next.inj (h.symm.trans (blockNeverReadsItsOutput i s t s.trace s.xlatch h))
  exact ⟨congrArg State.trace hsame, congrArg State.xlatch hsame⟩

end Sys2Proof.Machine
end

section
/-! PROOFS. One flag per flag operation, with the default masks (10_state R20, R21). -/

namespace Sys2Proof.Safety

open Sys2Proof.Machine

/-- Moving a flag of one bit gives that bit its value and leaves the others. -/
theorem moveFlag_getLsbD (on : Bool) (register : Byte) {bit : Nat} (hbit : bit < 8) (k : Nat) :
    (moveFlag on register (1#8 <<< bit)).getLsbD k = if k = bit then on else register.getLsbD k := by
  have hmask : (1#8 <<< bit).getLsbD k = decide (k = bit) := by
    rw [← BitVec.twoPow_eq, BitVec.getLsbD_twoPow, decide_eq_true hbit, Bool.true_and, decide_eq_decide]
    exact eq_comm
  by_cases hk : k = bit
  · subst hk
    cases on <;> simp [moveFlag, setFlag, clearFlag, hbit]
  · cases on with
    | true => simp [moveFlag, setFlag, hmask, hk]
    | false => simpa [moveFlag, clearFlag, hmask, hk] using fun h => BitVec.lt_of_getLsbD h

/-- With the default masks the mask of a flag operation is the one bit 10_state R20, R21 name. -/
theorem flagMaskOf_standardConfig {i : Instr} {bit : Nat} {on : Bool} (h : flagBitOf i = some (bit, on)) :
    bit < 8 ∧ flagMaskOf standardConfig i = some (1#8 <<< bit, on) := by
  cases i <;> cases h <;> exact ⟨by decide, rfl⟩

/-- Settles O29: a flag operation moves the flag of its mask (`exec_controlOp_next`, `exec_modeOp_next`), and with the
default masks that is one bit. -/
theorem flagOperationsMoveOneBit : Obligations.FlagOperationsMoveOneBit := by
  intro i s t bit on hc h hb
  obtain ⟨hbit, hmask⟩ := flagMaskOf_standardConfig hb
  rw [← hc] at hmask
  constructor
  · intro hi k
    obtain ⟨-, mask, on', hm, rfl⟩ := exec_controlOp_next hi h
    cases hmask.symm.trans hm
    exact moveFlag_getLsbD on s.controlFlags hbit k
  · intro hi k
    obtain ⟨-, mask, on', hm, rfl⟩ := exec_modeOp_next hi h
    cases hmask.symm.trans hm
    exact moveFlag_getLsbD on s.modeFlags hbit k

end Sys2Proof.Safety
end

section
/-! PROOFS. The backlight bit of every bus byte (10_state R31, 40_transport R73). -/

namespace Sys2Proof.Safety

open Sys2Proof.Machine

/-- Every bus byte of some events has bit 3 equal to the backlight state. -/
def lit (on : Bool) (events : List Event) : Bool := (busBytes events).all fun b => b.getLsbD 3 == on

@[simp] theorem lit_append (on : Bool) (a b : List Event) : lit on (a ++ b) = (lit on a && lit on b) := by
  simp [lit]

@[simp] theorem lit_delay (on : Bool) (ns : Nat) (rest : List Event) : lit on (.delay ns :: rest) = lit on rest := rfl

@[simp] theorem lit_nil (on : Bool) : lit on [] = true := rfl

theorem lit_delays (on : Bool) (waits : List Nat) : lit on (waits.map .delay) = true := by
  induction waits with
  | nil => rfl
  | cons ns rest ih => exact ih

/-- The expander write merges the backlight bit, so only a byte that has bit 3 set of itself can differ from a dark
register (40_transport R73). -/
@[simp] theorem lit_expanderWriteEvents (on : Bool) (b : Byte) :
    lit on (expanderWriteEvents on b) = (on || !b.getLsbD 3) := by
  cases on <;> simp [lit, expanderWriteEvents, busBytes, backlightBit, xbBl]

@[simp] theorem lit_writeNibbleEvents (c : Config) (on : Bool) (nb : Byte) :
    lit on (writeNibbleEvents c on nb) = (on || !nb.getLsbD 3) := by
  simp [writeNibbleEvents, xbEn]

/-- Both nibble bytes of a value have bit 3 clear, whatever the value is. -/
@[simp] theorem lit_sendByteEvents (c : Config) (on : Bool) (v : Byte) (isData : Bool) :
    lit on (sendByteEvents c on v isData) = true := by
  cases isData <;> simp [sendByteEvents, highNibbleByte, lowNibbleByte, registerSelect, xbData, xbRs]

theorem lit_transmit (c : Config) (on : Bool) (sent : List (Bool × Byte)) : lit on (transmit c on sent) = true := by
  induction sent with
  | nil => rfl
  | cons p rest ih => rw [transmit, List.flatMap_cons, lit_append, lit_sendByteEvents, Bool.true_and]; exact ih

theorem lit_handshakeOf (c : Config) (on : Bool) (fs : Byte) : lit on (handshakeOf c on fs) = true := by
  simp [handshakeOf, initNibble8BitByte, initNibble4BitByte]

theorem lit_added_of_trace {s t : State} {on : Bool} {events : List Event} (h : t.trace = s.trace ++ events)
    (hlit : lit on events = true) : lit on (added s t) = true := by
  rw [added, h, List.drop_left, hlit]

/-- What each effect of a host operation emits goes through the transport with the backlight bit of the register. -/
theorem lit_added {i : Instr} {s t : State} (hi : i.isHost = true) (h : exec i s = .next t) :
    lit t.backlightState (added s t) = true := by
  cases exec_effect h with
  | configure hu hl =>
    rw [initHandshake_eq]
    exact lit_added_of_trace rfl (lit_handshakeOf ..)
  | control | mode => exact lit_added_of_trace rfl (lit_sendByteEvents ..)
  | backlight on => exact lit_added_of_trace (List.append_nil _).symm (lit_nil on)
  | send sent waits =>
    exact lit_added_of_trace rfl (by rw [lit_append, State.emit_backlightState, lit_transmit, lit_delays]; rfl)
  | internal events hn => simp [hi] at hn

/-- Settles O41, byte by byte of `lit_added`. -/
theorem backlightBitInEveryBusByte : Obligations.BacklightBitInEveryBusByte := by
  intro i s t hi h b hb
  simpa using List.all_eq_true.mp (lit_added hi h) b hb

end Sys2Proof.Safety
end

section
/-! PROOFS. No instruction reads `columnCount` (10_state R23). -/

namespace Sys2Proof.Machine

open Sys2Proof.Safety

/-- The same state with another `columnCount`. -/
def State.withColumns (s : State) (columns : Byte) : State := { s with columnCount := columns }

/-- An operation that, where it answers a next state, carries another `columnCount` along and does nothing else with it. -/
def ColumnBlind (k : State → Result) : Prop :=
  ∀ s t columns, k s = .next t → k (s.withColumns columns) = .next (t.withColumns columns)

theorem columnBlind_refused (r : Refusal) : ColumnBlind fun _ => .refused r := fun _ _ _ h => nomatch h

/-- An operation that always runs is blind if its change of the state is. -/
theorem columnBlind_next {f : State → State} (hf : ∀ s columns, f (s.withColumns columns) = (f s).withColumns columns) :
    ColumnBlind fun s => .next (f s) := by
  intro s t columns h
  cases h
  exact congrArg Host.Outcome.next (hf s columns)

/-- The phase gate does not look at `columnCount`. -/
theorem ColumnBlind.whenReady {k : State → Result} (hk : ColumnBlind k) : ColumnBlind fun s => whenReady s (k s) := by
  intro s t columns h
  obtain ⟨hr, h⟩ := whenReady_next_iff.mp h
  exact whenReady_next_iff.mpr ⟨hr, hk s t columns h⟩

/-- A choice made on the operands alone. -/
theorem ColumnBlind.ite {k k' : State → Result} (p : Prop) [Decidable p] (hk : ColumnBlind k) (hk' : ColumnBlind k') :
    ColumnBlind fun s => if p then k s else k' s := by
  by_cases hp : p
  · simpa only [if_pos hp] using hk
  · simpa only [if_neg hp] using hk'

theorem columnBlind_setCursor (col row : Byte) : ColumnBlind (execSetCursor col row) := by
  intro s t columns h
  obtain ⟨hr, v, hv, rfl⟩ := execSetCursor_next h
  refine whenReady_next_iff.mpr ⟨hr, ?_⟩
  have hv' : ddramCommand (s.withColumns columns).config (s.withColumns columns).lineCount col row = some v := hv
  rw [hv']
  rfl

theorem writeAll_withColumns (bytes : List Byte) (s : State) (columns : Byte) :
    (s.withColumns columns).writeAll bytes = (s.writeAll bytes).withColumns columns := by
  rw [State.writeAll_eq, State.writeAll_eq]
  rfl

/-- Every instruction but `CONFIGURE` is blind to `columnCount`. -/
theorem exec_columnBlind {i : Instr} (hi : isConfigure i = false) : ColumnBlind (exec i) := by
  cases i with
  | configure => cases hi
  | setCursor col row => exact columnBlind_setCursor col row
  | createChar slot rows =>
    exact .whenReady (.ite _ (columnBlind_next fun s columns => writeAll_withColumns _ (s.command _) columns)
      (columnBlind_refused _))
  | print buffer size =>
    exact .whenReady (.ite _ (columnBlind_refused _) (.ite _ (columnBlind_refused _)
      (columnBlind_next (writeAll_withColumns _))))
  | clear | home | displayOn | displayOff | cursorOn | cursorOff | blinkOn | blinkOff | scrollLeft | scrollRight
  | leftToRight | rightToLeft | autoscrollOn | autoscrollOff | backlightOn | backlightOff =>
    exact (columnBlind_next fun _ _ => rfl).whenReady
  | _ => exact columnBlind_next fun _ _ => rfl

/-- `CONFIGURE` overwrites `columnCount`, so the old one leaves no mark. -/
theorem execConfigure_withColumns (columns lines fontVariant : Byte) (s : State) (old : Byte) :
    execConfigure columns lines fontVariant (s.withColumns old) = execConfigure columns lines fontVariant s := rfl

/-- Settles O46: `CONFIGURE` overwrites the register, every other instruction carries it along. -/
theorem columnCountIsReadByNothing : Obligations.ColumnCountIsReadByNothing := by
  intro i s t c h
  cases hi : isConfigure i with
  | false => exact exec_columnBlind hi s t c h
  | true =>
    cases i with
    | configure columns lines fontVariant => exact (execConfigure_withColumns columns lines fontVariant s c).trans h
    | _ => cases hi

end Sys2Proof.Machine
end

section
/-! PROOFS. The saturating row of `SET_CURSOR` (10_state R32, 42_display_commands R94). -/

namespace Sys2Proof.Machine

/-- A row at or past the line count is clamped to where the last row is. -/
theorem clampedRow_of_le {lineCount row : Byte} (h1 : 1 ≤ lineCount.toNat) (h : lineCount.toNat ≤ row.toNat) :
    clampedRow lineCount row = clampedRow lineCount (lineCount - 1#8) := by
  have hlast : (lineCount - 1#8).toNat = lineCount.toNat - 1 := by bv_omega
  rw [clampedRow, clampedRow, hlast]
  omega

/-- With 1 to 4 lines every row has an offset. -/
theorem ddramCommand_isSome (c : Config) {lineCount : Byte} (h1 : 1 ≤ lineCount.toNat) (h4 : lineCount.toNat ≤ 4)
    (col row : Byte) : ∃ v, ddramCommand c lineCount col row = some v := by
  have hrow : ∀ r : Fin 4, (rowOffset r).isSome = true := by decide
  have hclamp : clampedRow lineCount row < 4 := by unfold clampedRow; omega
  obtain ⟨offset, hoffset⟩ := Option.isSome_iff_exists.mp (hrow ⟨_, hclamp⟩)
  exact ⟨_, by rw [ddramCommand, if_pos (by simp [linesLegal, h1, h4]), hoffset, Option.map_some]⟩

theorem execSetCursor_ready {s : State} {col row v : Byte} (hr : s.phase = .ready)
    (hv : ddramCommand s.config s.lineCount col row = some v) : execSetCursor col row s = .next (s.command v) := by
  rw [execSetCursor, whenReady_ready hr, hv]

/-- Settles O25: the two rows are clamped alike, so they form the same command byte, if any. -/
theorem setCursorRowSaturates : Obligations.SetCursorRowSaturates := by
  intro col row s h1 hrow
  have hsame : execSetCursor col row s = execSetCursor col (s.lineCount - 1#8) s := by
    rw [execSetCursor, execSetCursor, ddramCommand, ddramCommand, clampedRow_of_le h1 hrow]
  refine ⟨hsame, fun hr h4 => ?_⟩
  obtain ⟨v, hv⟩ := ddramCommand_isSome s.config h1 h4 col row
  have hnext := execSetCursor_ready hr hv
  exact ⟨_, hnext, hsame.symm.trans hnext⟩

end Sys2Proof.Machine
end

section
/-! PROOFS. Power-on (10_state R34, 70_reset_and_hazards R128). -/

namespace Sys2Proof.Safety

open Sys2Proof.Machine

/-- Settles O1: these four fields of `State.reset`, read off. -/
theorem powerOnIsUnconfiguredAndSilent : Obligations.PowerOnIsUnconfiguredAndSilent := ⟨rfl, rfl, rfl, rfl⟩

/-- Settles O58: before `CONFIGURE` nothing is owed but an empty trace. -/
theorem powerOnIsFlushed : Obligations.PowerOnIsFlushed where
  config := rfl
  silent _ := rfl
  enableLow := nofun
  handshake := nofun
  paired := nofun
  control := nofun
  mode := nofun
  function := nofun
  flags := nofun

end Sys2Proof.Safety
end

section
/-! PROOFS. Reading sent bytes back from a trace (20_memory R56, 30_encoding R64): whole bytes appended to a trace are
read after those it already carries. -/

namespace Sys2Proof.Machine

/-- The two nibbles a sent byte is latched as, high nibble first (40_transport R75). -/
def nibblesOf (p : Bool × Byte) : List (Bool × Nibble) := [(p.1, p.2.extractLsb' 4 4), (p.1, p.2.extractLsb' 0 4)]

@[simp] theorem length_flatMap_nibblesOf (sent : List (Bool × Byte)) :
    (sent.flatMap nibblesOf).length = 2 * sent.length := by
  simp [nibblesOf, List.length_flatMap, Nat.mul_comm]

/-- Pairing reads sent bytes back from their nibbles. -/
theorem pairNibbles_flatMap_nibblesOf (sent : List (Bool × Byte)) : pairNibbles (sent.flatMap nibblesOf) = sent := by
  induction sent with
  | nil => rfl
  | cons p rest ih =>
    have hjoin : p.2.extractLsb' 4 4 ++ p.2.extractLsb' 0 4 = p.2 :=
      BitVec.extractLsb'_append_extractLsb'_eq_extractLsb' (by rfl) |>.trans (BitVec.extractLsb'_eq_self)
    rw [List.flatMap_cons, nibblesOf, List.cons_append, List.cons_append, List.nil_append, pairNibbles, hjoin, ih]

/-- Pairing goes on behind an even number of nibbles. -/
theorem pairNibbles_append (a b : List (Bool × Nibble)) (ha : a.length % 2 = 0) :
    pairNibbles (a ++ b) = pairNibbles a ++ pairNibbles b := by
  induction a using pairNibbles.induct with
  | case1 rs high _ low rest ih =>
    simp only [List.cons_append, pairNibbles]
    rw [ih (by simp at ha; omega)]
  | case2 a hshort =>
    match a, hshort with
    | [], _ => rfl
    | [_], _ => simp at ha
    | (rs, high) :: (rs', low) :: rest, h => exact absurd rfl (h rs high rs' low rest)

/-- Behind bytes that leave the enable bit low, the latch observer reads on with the bit low: no edge lies between. -/
theorem latched_append {a : List Byte} (ha : (a.getLastD 0x04#8).getLsbD 2 = false) (b : List Byte) :
    latched (a ++ b) = latched a ++ latchedAfter (a.getLastD 0x04#8) b := by
  cases a with
  | nil => simp at ha
  | cons x rest =>
    rw [List.getLastD_cons]
    exact latchedAfter_append x rest b

theorem getLastD_append {α : Type} (a b : List α) (x : α) : (a ++ b).getLastD x = b.getLastD (a.getLastD x) := by
  simp [List.getLastD_eq_getLast?, Option.getD_or]

/-- Behind any bus byte with the enable bit low, some events are latched as sent bytes and leave the bit low. -/
def Carries (events : List Event) (sent : List (Bool × Byte)) : Prop :=
  ∀ x : Byte, x.getLsbD 2 = false →
    latchedAfter x (busBytes events) = sent.flatMap nibblesOf ∧ ((busBytes events).getLastD x).getLsbD 2 = false

theorem carries_nil : Carries [] [] := fun _ hx => ⟨rfl, hx⟩

theorem carries_delay (ns : Nat) : Carries [.delay ns] [] := fun _ hx => ⟨rfl, hx⟩

theorem Carries.append {a b : List Event} {sentA sentB : List (Bool × Byte)} (ha : Carries a sentA)
    (hb : Carries b sentB) : Carries (a ++ b) (sentA ++ sentB) := by
  intro x hx
  obtain ⟨hlatchA, hlowA⟩ := ha x hx
  obtain ⟨hlatchB, hlowB⟩ := hb _ hlowA
  rw [busBytes_append, latchedAfter_append, hlatchA, hlatchB, List.flatMap_append]
  exact ⟨rfl, by rwa [getLastD_append]⟩

theorem carries_delays (waits : List Nat) : Carries (waits.map .delay) [] := by
  induction waits with
  | nil => exact carries_nil
  | cons ns rest ih => exact (carries_delay ns).append ih

/-- A nibble transfer is one falling edge, with the nibble on the lines (40_transport R76 f). -/
theorem latchedAfter_nibbleTransfer (c : Config) (on : Bool) (nb : Byte) {x : Byte} (hx : x.getLsbD 2 = false) :
    latchedAfter x (busBytes (Safety.nibbleTransfer c on nb)) = [(nb.getLsbD 0, nb.extractLsb' 4 4)] ∧
      ((busBytes (Safety.nibbleTransfer c on nb)).getLastD x).getLsbD 2 = false := by
  have hset : (nb ||| 0x04#8 ||| Safety.lamp on).getLsbD 2 = true := by simp
  have hclear : (nb &&& 0xFB#8 ||| Safety.lamp on).getLsbD 2 = false := by cases on <;> simp [Safety.lamp]
  have hselect : (nb &&& 0xFB#8 ||| Safety.lamp on).getLsbD 0 = nb.getLsbD 0 := by cases on <;> simp [Safety.lamp]
  have hnibble : (nb &&& 0xFB#8 ||| Safety.lamp on).extractLsb' 4 4 = nb.extractLsb' 4 4 := by
    cases on <;> revert nb <;> decide
  rw [busBytes_nibbleTransfer]
  exact ⟨by simp only [latchedAfter, hx, hset, hclear, hselect, hnibble]; simp, hclear⟩

/-- The two nibble bytes of 40_transport R75 have the nibbles of the value and its register select. -/
theorem nibblesOf_eq (isData : Bool) (v : Byte) :
    nibblesOf (isData, v) =
      [((v &&& 0xF0#8 ||| Safety.select isData).getLsbD 0, (v &&& 0xF0#8 ||| Safety.select isData).extractLsb' 4 4),
        ((v <<< 4 &&& 0xF0#8 ||| Safety.select isData).getLsbD 0,
          (v <<< 4 &&& 0xF0#8 ||| Safety.select isData).extractLsb' 4 4)] := by
  cases isData <;> revert v <;> decide

/-- A byte transfer carries the byte (40_transport R76 f). -/
theorem carries_sendByteEvents (c : Config) (on : Bool) (v : Byte) (isData : Bool) :
    Carries (sendByteEvents c on v isData) [(isData, v)] := by
  intro x hx
  obtain ⟨hhigh, hx'⟩ := latchedAfter_nibbleTransfer c on (v &&& 0xF0#8 ||| Safety.select isData) hx
  obtain ⟨hlow, hend⟩ := latchedAfter_nibbleTransfer c on (v <<< 4 &&& 0xF0#8 ||| Safety.select isData) hx'
  rw [sendByteEvents_eq, Safety.byteTransfer, busBytes_append, latchedAfter_append, hhigh, hlow, getLastD_append,
    List.flatMap_singleton, nibblesOf_eq]
  exact ⟨rfl, hend⟩

theorem carries_transmit (c : Config) (on : Bool) (sent : List (Bool × Byte)) : Carries (transmit c on sent) sent := by
  induction sent with
  | nil => exact carries_nil
  | cons p rest ih => exact (carries_sendByteEvents c on p.2 p.1).append ih

/-- A trace that `CONFIGURE` began: the four initialization nibbles and whole bytes after them, the enable bit low at its
end (30_encoding R64, 20_memory R46). -/
structure Framed (trace : List Event) : Prop where
  enableLow : ((busBytes trace).getLastD 0x04#8).getLsbD 2 = false
  handshake : (latched (busBytes trace)).take 4 = [(false, 0x3#4), (false, 0x3#4), (false, 0x3#4), (false, 0x2#4)]
  paired : (latched (busBytes trace)).length % 2 = 0

theorem Framed.four_le {trace : List Event} (h : Framed trace) : 4 ≤ (latched (busBytes trace)).length := by
  have h4 := congrArg List.length h.handshake
  rw [List.length_take] at h4
  simp at h4
  omega

theorem Framed.latched_append {trace events : List Event} {sent : List (Bool × Byte)} (h : Framed trace)
    (he : Carries events sent) :
    latched (busBytes (trace ++ events)) = latched (busBytes trace) ++ sent.flatMap nibblesOf := by
  rw [busBytes_append, Machine.latched_append h.enableLow, (he _ h.enableLow).1]

/-- Appending whole bytes keeps the frame. -/
theorem Framed.append {trace events : List Event} {sent : List (Bool × Byte)} (h : Framed trace)
    (he : Carries events sent) : Framed (trace ++ events) where
  enableLow := by
    rw [busBytes_append, getLastD_append]
    exact (he _ h.enableLow).2
  handshake := by rw [h.latched_append he, List.take_append_of_le_length h.four_le, h.handshake]
  paired := by
    have := h.paired
    rw [h.latched_append he, List.length_append, length_flatMap_nibblesOf]
    omega

/-- The sent bytes of a framed trace grow by those appended. -/
theorem Framed.sentBytes_append {trace events : List Event} {sent : List (Bool × Byte)} (h : Framed trace)
    (he : Carries events sent) : sentBytes (trace ++ events) = sentBytes trace ++ sent := by
  have heven : ((latched (busBytes trace)).drop 4).length % 2 = 0 := by
    have := h.paired
    rw [List.length_drop]
    omega
  rw [sentBytes, h.latched_append he, List.drop_append_of_le_length h.four_le, pairNibbles_append _ _ heven,
    pairNibbles_flatMap_nibblesOf, sentBytes]

/-- The events of the handshake up to the nibble that selects the 4-bit interface (41_configure_init R80 to R83). -/
def initEvents (c : Config) (on : Bool) : List Event :=
  [Event.delay tPowerUp] ++ (expanderWriteEvents on 0x00#8 ++ [Event.delay tResetSettle]) ++
  (writeNibbleEvents c on initNibble8BitByte ++ [Event.delay tInit1]) ++
  (writeNibbleEvents c on initNibble8BitByte ++ [Event.delay tInit2]) ++
  (writeNibbleEvents c on initNibble8BitByte ++ [Event.delay tInit3]) ++
  writeNibbleEvents c on initNibble4BitByte

/-- The five commands of the handshake (R84 to R88). -/
def handshakeCommands (c : Config) (fs : Byte) : List Byte :=
  [functionSetCommand c fs, displayControlCommand c c.flagDisplayOn, c.cmdClearDisplay,
    entryModeCommand c c.flagEntryLeft, c.cmdReturnHome]

/-- Their events, each slow command with its settle (R86, R88). -/
def handshakeCommandEvents (c : Config) (on : Bool) (fs : Byte) : List Event :=
  sendByteEvents c on (functionSetCommand c fs) false ++
  (sendByteEvents c on (displayControlCommand c c.flagDisplayOn) false ++
  ((sendByteEvents c on c.cmdClearDisplay false ++ [Event.delay tClearHome]) ++
  (sendByteEvents c on (entryModeCommand c c.flagEntryLeft) false ++
  (sendByteEvents c on c.cmdReturnHome false ++ [Event.delay tClearHome]))))

/-- The handshake is its initialization events and then its five commands (R89). -/
theorem handshakeOf_eq_append (c : Config) (on : Bool) (fs : Byte) :
    handshakeOf c on fs = initEvents c on ++ handshakeCommandEvents c on fs := by
  simp only [handshakeOf, initEvents, handshakeCommandEvents, List.append_assoc]

theorem carries_handshakeCommandEvents (c : Config) (on : Bool) (fs : Byte) :
    Carries (handshakeCommandEvents c on fs) ((handshakeCommands c fs).map (false, ·)) :=
  have hsend v : Carries (sendByteEvents c on v false) [(false, v)] := carries_sendByteEvents c on v false
  (hsend _).append ((hsend _).append (((hsend _).append (carries_delay _)).append ((hsend _).append
    ((hsend _).append (carries_delay _)))))

/-- The initialization events are framed and send no whole byte. -/
theorem framed_initEvents (on : Bool) :
    Framed (initEvents standardConfig on) ∧ sentBytes (initEvents standardConfig on) = [] := by
  cases on <;> exact ⟨⟨by decide, by decide, by decide⟩, by decide⟩

end Sys2Proof.Machine
end

section
/-! PROOFS. No flag register is ever dirty (10_state R30): what each operation sends, read as commands, leaves the last
byte of each flag command equal to its register. -/

namespace Sys2Proof.Safety

open Sys2Proof.Machine

theorem sentCommands_append (a b : List (Bool × Byte)) : sentCommands (a ++ b) = sentCommands a ++ sentCommands b := by
  simp [sentCommands]

theorem mem_sentCommands {v : Byte} {sent : List (Bool × Byte)} : v ∈ sentCommands sent ↔ (false, v) ∈ sent := by
  simp [sentCommands]

/-- Commands a mask does not recognise do not change the last one it does. -/
theorem lastCommand_append_of_ne {mask pattern : Byte} (commands : List Byte) {new : List Byte}
    (h : ∀ v ∈ new, v &&& mask ≠ pattern) :
    lastCommand mask pattern (commands ++ new) = lastCommand mask pattern commands := by
  have hnone : new.filter (fun v => v &&& mask == pattern) = [] := by simpa using h
  rw [lastCommand, lastCommand, List.filter_append, hnone, List.append_nil]

/-- A command the mask recognises is the last one. -/
theorem lastCommand_append_singleton {mask pattern v : Byte} (commands : List Byte) (h : v &&& mask = pattern) :
    lastCommand mask pattern (commands ++ [v]) = some v := by
  simp [lastCommand, h]

/-- With the default codes a flagless command has none of the patterns `00001dcb`, `000001is`, `001wnf00`
(30_encoding R59). -/
theorem no_pattern_of_flagless {v : Byte} (h : FlaglessCommand standardConfig v) :
    v &&& 0xF8#8 ≠ 0x08#8 ∧ v &&& 0xFC#8 ≠ 0x04#8 ∧ v &&& 0xE0#8 ≠ 0x20#8 := by
  cases h with
  | clear | home => decide
  | shift right => cases right <;> decide
  | cgram slot => revert slot; decide
  | ddram address => revert address; decide

/-- A display-control command has its own pattern and neither of the others. -/
theorem displayControl_pattern {v : Byte} (hv : v ≤ 0x07#8) :
    (0x08#8 ||| v) &&& 0xF8#8 = 0x08#8 ∧ (0x08#8 ||| v) &&& 0xFC#8 ≠ 0x04#8 ∧ (0x08#8 ||| v) &&& 0xE0#8 ≠ 0x20#8 := by
  revert v
  decide

/-- An entry-mode command has its own pattern and neither of the others. -/
theorem entryMode_pattern {v : Byte} (hv : v ≤ 0x03#8) :
    (0x04#8 ||| v) &&& 0xF8#8 ≠ 0x08#8 ∧ (0x04#8 ||| v) &&& 0xFC#8 = 0x04#8 ∧ (0x04#8 ||| v) &&& 0xE0#8 ≠ 0x20#8 := by
  revert v
  decide

/-- The commands sent so far agree with the three flag registers, which hold flags alone (10_state R30, R19 to R21). -/
structure Agrees (commands : List Byte) (control mode function : Byte) : Prop where
  flags : control ≤ 0x07#8 ∧ mode ≤ 0x03#8 ∧ (function = 0x00#8 ∨ function = 0x04#8 ∨ function = 0x08#8)
  control : lastCommand 0xF8#8 0x08#8 commands = some (0x08#8 ||| control)
  mode : lastCommand 0xFC#8 0x04#8 commands = some (0x04#8 ||| mode)
  function : commands.filter (fun v => v &&& 0xE0#8 == 0x20#8) = [0x20#8 ||| function]

section Agreement

variable {commands : List Byte} {control mode function : Byte}

theorem Agrees.filter_append (h : Agrees commands control mode function) {new : List Byte}
    (hnew : ∀ v ∈ new, v &&& 0xE0#8 ≠ 0x20#8) :
    (commands ++ new).filter (fun v => v &&& 0xE0#8 == 0x20#8) = [0x20#8 ||| function] := by
  have hnone : new.filter (fun v => v &&& 0xE0#8 == 0x20#8) = [] := by simpa using hnew
  rw [List.filter_append, h.function, hnone, List.append_nil]

theorem Agrees.append_flagless (h : Agrees commands control mode function) {new : List Byte}
    (hnew : ∀ v ∈ new, FlaglessCommand standardConfig v) : Agrees (commands ++ new) control mode function where
  control := by
    rw [lastCommand_append_of_ne _ fun v hv => (no_pattern_of_flagless (hnew v hv)).1, h.control]
  mode := by
    rw [lastCommand_append_of_ne _ fun v hv => (no_pattern_of_flagless (hnew v hv)).2.1, h.mode]
  function := h.filter_append fun v hv => (no_pattern_of_flagless (hnew v hv)).2.2
  flags := h.flags

theorem Agrees.append_control (h : Agrees commands control mode function) {v : Byte} (hv : v ≤ 0x07#8) :
    Agrees (commands ++ [0x08#8 ||| v]) v mode function := by
  obtain ⟨hcontrol, hmode, hfunction⟩ := displayControl_pattern hv
  exact
    { control := lastCommand_append_singleton _ hcontrol
      mode := by rw [lastCommand_append_of_ne _ (by simpa using hmode), h.mode]
      function := h.filter_append (by simpa using hfunction)
      flags := ⟨hv, h.flags.2⟩ }

theorem Agrees.append_mode (h : Agrees commands control mode function) {v : Byte} (hv : v ≤ 0x03#8) :
    Agrees (commands ++ [0x04#8 ||| v]) control v function := by
  obtain ⟨hcontrol, hmode, hfunction⟩ := entryMode_pattern hv
  exact
    { control := by rw [lastCommand_append_of_ne _ (by simpa using hcontrol), h.control]
      mode := lastCommand_append_singleton _ hmode
      function := h.filter_append (by simpa using hfunction)
      flags := ⟨h.flags.1, hv, h.flags.2.2⟩ }

end Agreement

/-- The function-set flags `CONFIGURE` can give, with the default masks (10_state R19). -/
theorem functionFlagsOf_standardConfig (lines fontVariant : Byte) :
    functionFlagsOf standardConfig lines fontVariant = 0x00#8 ∨
      functionFlagsOf standardConfig lines fontVariant = 0x04#8 ∨
      functionFlagsOf standardConfig lines fontVariant = 0x08#8 := by
  rw [functionFlagsOf_eq]
  rcases configuredFunctionFlags_cases standardConfig lines fontVariant with h | ⟨-, h⟩
  · rw [h]
    split
    · exact .inr (.inr rfl)
    · exact .inl rfl
  · exact .inr (.inl h)

/-- The five commands of the handshake agree with the registers it leaves (41_configure_init R84 to R88). -/
theorem agrees_handshakeCommands {fs : Byte} (hfs : fs = 0x00#8 ∨ fs = 0x04#8 ∨ fs = 0x08#8) :
    Agrees (handshakeCommands standardConfig fs) standardConfig.flagDisplayOn standardConfig.flagEntryLeft fs := by
  rcases hfs with rfl | rfl | rfl <;> exact ⟨by decide, by decide, by decide, by decide⟩

/-- The trace of the handshake alone is framed, and its commands agree with the registers it leaves. -/
theorem framed_agrees_handshakeOf {fs : Byte} (hfs : fs = 0x00#8 ∨ fs = 0x04#8 ∨ fs = 0x08#8) :
    Framed (handshakeOf standardConfig true fs) ∧
      Agrees (sentCommands (sentBytes (handshakeOf standardConfig true fs))) standardConfig.flagDisplayOn
        standardConfig.flagEntryLeft fs := by
  obtain ⟨hframed, hnone⟩ := framed_initEvents true
  have hcarries := carries_handshakeCommandEvents standardConfig true fs
  rw [handshakeOf_eq_append, hframed.sentBytes_append hcarries, hnone]
  exact ⟨hframed.append hcarries, agrees_handshakeCommands hfs⟩

section Rules

variable {s : State}

/-- Once configured, a flushed state is a framed trace whose commands agree with the registers. -/
theorem flushed_iff_of_ready (hr : s.phase = .ready) :
    Flushed s ↔ s.config = standardConfig ∧ Framed s.trace ∧
      Agrees (sentCommands (sentBytes s.trace)) s.controlFlags s.modeFlags s.functionFlags := by
  constructor
  · intro h
    exact ⟨h.config, ⟨h.enableLow hr, h.handshake hr, h.paired hr⟩,
      ⟨h.flags hr, h.control hr, h.mode hr, h.function hr⟩⟩
  · rintro ⟨hc, hframed, hagrees⟩
    exact ⟨hc, fun hu => by simp [hr] at hu, fun _ => hframed.enableLow, fun _ => hframed.handshake,
      fun _ => hframed.paired, fun _ => hagrees.control, fun _ => hagrees.mode, fun _ => hagrees.function,
      fun _ => hagrees.flags⟩

theorem Flushed.withProgram (h : Flushed s) (p : List Request) : Flushed (s.withProgram p) :=
  ⟨h.config, h.silent, h.enableLow, h.handshake, h.paired, h.control, h.mode, h.function, h.flags⟩

theorem Flushed.withBacklight (h : Flushed s) (on : Bool) : Flushed (s.withBacklight on) :=
  ⟨h.config, h.silent, h.enableLow, h.handshake, h.paired, h.control, h.mode, h.function, h.flags⟩

/-- Whole bytes behind a flushed trace keep the state flushed if their commands bring the agreement to the registers
of the new state. -/
theorem Flushed.of_carries {t : State} (h : Flushed s) (hr : s.phase = .ready) (hready : t.phase = .ready)
    (hconfig : t.config = s.config) {events : List Event} {sent : List (Bool × Byte)}
    (htrace : t.trace = s.trace ++ events) (hcarries : Carries events sent)
    (hagrees : Agrees (sentCommands (sentBytes s.trace)) s.controlFlags s.modeFlags s.functionFlags →
      Agrees (sentCommands (sentBytes s.trace) ++ sentCommands sent) t.controlFlags t.modeFlags t.functionFlags) :
    Flushed t := by
  obtain ⟨hc, hframed, hold⟩ := (flushed_iff_of_ready hr).mp h
  refine (flushed_iff_of_ready hready).mpr ⟨hconfig.trans hc, ?_, ?_⟩
  · rw [htrace]
    exact hframed.append hcarries
  · rw [htrace, hframed.sentBytes_append hcarries, sentCommands_append]
    exact hagrees hold

theorem Flushed.updateControl (h : Flushed s) (hr : s.phase = .ready) {v : Byte} (hv : v ≤ 0x07#8) :
    Flushed (s.updateControl v) := by
  refine h.of_carries hr hr rfl rfl (carries_sendByteEvents _ _ _ _) fun hold => ?_
  have hsent : displayControlCommand s.config v = 0x08#8 ||| v := by rw [h.config]; rfl
  change Agrees (_ ++ [displayControlCommand s.config v]) v s.modeFlags s.functionFlags
  rw [hsent]
  exact hold.append_control hv

theorem Flushed.updateMode (h : Flushed s) (hr : s.phase = .ready) {v : Byte} (hv : v ≤ 0x03#8) :
    Flushed (s.updateMode v) := by
  refine h.of_carries hr hr rfl rfl (carries_sendByteEvents _ _ _ _) fun hold => ?_
  have hsent : entryModeCommand s.config v = 0x04#8 ||| v := by rw [h.config]; rfl
  change Agrees (_ ++ [entryModeCommand s.config v]) s.controlFlags v s.functionFlags
  rw [hsent]
  exact hold.append_mode hv

/-- Bytes without a flag command among them, and waits, keep the state flushed. -/
theorem Flushed.send (h : Flushed s) (hr : s.phase = .ready) {sent : List (Bool × Byte)}
    (hsent : ∀ v, (false, v) ∈ sent → FlaglessCommand s.config v) (waits : List Nat) :
    Flushed (s.emit (transmit s.config s.backlightState sent ++ waits.map .delay)) := by
  refine h.of_carries hr hr rfl rfl ((carries_transmit _ _ _).append (carries_delays waits)) fun hold => ?_
  rw [List.append_nil]
  exact hold.append_flagless fun v hv => h.config ▸ hsent v (mem_sentCommands.mp hv)

/-- `CONFIGURE` starts the trace, and its commands agree with the registers it writes. -/
theorem Flushed.initHandshake_withGeometry (h : Flushed s) (hu : s.phase = .unconfigured)
    (columns lines fontVariant : Byte) : Flushed (initHandshake (s.withGeometry columns lines fontVariant)) := by
  rw [initHandshake_eq]
  refine (flushed_iff_of_ready rfl).mpr ⟨h.config, ?_⟩
  simpa [h.silent hu, h.config] using framed_agrees_handshakeOf (functionFlagsOf_standardConfig lines fontVariant)

end Rules

/-- With the default masks a control operation's new register holds control flags alone (10_state R20). -/
theorem moveFlag_control_le {i : Instr} {register mask : Byte} {on : Bool} (hi : isControlOp i = true)
    (hm : flagMaskOf standardConfig i = some (mask, on)) (hr : register ≤ 0x07#8) :
    moveFlag on register mask ≤ 0x07#8 := by
  cases i with
  | displayOn | displayOff | cursorOn | cursorOff | blinkOn | blinkOff =>
    cases hm
    revert register
    decide
  | _ => cases hi

/-- With the default masks a mode operation's new register holds mode flags alone (R21). -/
theorem moveFlag_mode_le {i : Instr} {register mask : Byte} {on : Bool} (hi : isModeOp i = true)
    (hm : flagMaskOf standardConfig i = some (mask, on)) (hr : register ≤ 0x03#8) :
    moveFlag on register mask ≤ 0x03#8 := by
  cases i with
  | leftToRight | rightToLeft | autoscrollOn | autoscrollOff =>
    cases hm
    revert register
    decide
  | _ => cases hi

/-- Each of the twenty host operations keeps the state flushed, by the effect it has. -/
theorem exec_keepsFlushed {i : Instr} {s t : State} (hi : i.isHost = true) (hs : Flushed s) (h : exec i s = .next t) :
    Flushed t := by
  cases exec_effect h with
  | configure hu hl => exact hs.initHandshake_withGeometry hu ..
  | control hop hm hr => exact hs.updateControl hr (moveFlag_control_le hop (hs.config ▸ hm) (hs.flags hr).1)
  | mode hop hm hr => exact hs.updateMode hr (moveFlag_mode_le hop (hs.config ▸ hm) (hs.flags hr).2.1)
  | backlight on => exact hs.withBacklight on
  | send sent waits hr hsent => exact hs.send hr hsent waits
  | internal events hn => simp [hi] at hn

/-- Settles O59: a step is idle or runs a host operation, and each of the twenty keeps the state flushed. -/
theorem stepKeepsFlagsFlushed : Obligations.StepKeepsFlagsFlushed := by
  intro s t hs h
  rcases step_next_cases h with ⟨-, rfl⟩ | ⟨r, rest, i, -, hd, hexec⟩
  · exact hs
  · exact exec_keepsFlushed (isHost_of_decodeOpSelect hd) (hs.withProgram rest) hexec

end Sys2Proof.Safety
end

section
/-! PROOFS. What an instruction adds to the trace: what the latch observer reads of it (20_memory R56, 40_transport
R76), and that a host operation adds legal events alone (20_memory R37, R49). -/

namespace Sys2Proof.Safety

open Sys2Proof.Machine

theorem added_eq_of_trace {s t : State} {events : List Event} (h : t.trace = s.trace ++ events) :
    added s t = events := by
  rw [added, h, List.drop_left]

@[simp] theorem added_emit (s : State) (events : List Event) : added s (s.emit events) = events :=
  added_eq_of_trace rfl

/-- Behind a byte with the enable bit low no edge is read before the first byte, as when that byte is unknown (R56). -/
theorem latched_eq_latchedAfter {x : Byte} (hx : x.getLsbD 2 = false) (bytes : List Byte) :
    latched bytes = latchedAfter x bytes := by
  cases bytes with
  | nil => rfl
  | cons b rest =>
    rw [latchedAfter, hx]
    rfl

/-- Settles O12: a byte transfer carries its byte (`carries_sendByteEvents`), high nibble first. -/
theorem sendByteLatchesHighThenLow : Obligations.SendByteLatchesHighThenLow := by
  intro v isData s t h
  cases h
  have hlow : (0#8 : Byte).getLsbD 2 = false := rfl
  rw [State.sendByte, added_emit, latched_eq_latchedAfter hlow]
  exact (carries_sendByteEvents s.config s.backlightState v isData _ hlow).1

/-- Settles O13: a nibble transfer is one falling edge with the nibble on the lines (`latchedAfter_nibbleTransfer`). It
is so for every byte; bits 3:1 clear make the byte the one of 30_encoding R58. -/
theorem writeNibbleLatchesItsNibble : Obligations.WriteNibbleLatchesItsNibble := by
  intro nb s t _ h
  cases h
  have hlow : (0#8 : Byte).getLsbD 2 = false := rfl
  rw [State.writeNibble, added_emit, writeNibbleEvents_eq, latched_eq_latchedAfter hlow]
  exact (latchedAfter_nibbleTransfer s.config s.backlightState nb hlow).1

theorem all_eventLegal_transmit (c : Config) (on : Bool) (sent : List (Bool × Byte)) :
    (transmit c on sent).all eventLegal = true := by
  rw [transmit, List.all_flatMap]
  exact List.all_eq_true.mpr fun p _ => all_eventLegal_sendByteEvents c on p.2 p.1

theorem all_eventLegal_delays (waits : List Nat) : (waits.map Event.delay).all eventLegal = true := by
  simp [eventLegal]

/-- Settles O40: what each effect of a host operation emits goes through the transport, with bit 1 clear. -/
theorem hostOperationsEmitLegalEvents : Obligations.HostOperationsEmitLegalEvents := by
  intro i s t hi h
  cases exec_effect h with
  | configure hu hl =>
    rw [initHandshake_eq, added_eq_of_trace rfl]
    exact all_eventLegal_handshakeOf ..
  | control | mode =>
    rw [added_eq_of_trace rfl]
    exact all_eventLegal_sendByteEvents ..
  | backlight on =>
    have hsilent : added s (s.withBacklight on) = [] := added_eq_of_trace (List.append_nil _).symm
    rw [hsilent]
    rfl
  | send sent waits =>
    rw [added_emit, List.all_append, all_eventLegal_transmit, all_eventLegal_delays]
    rfl
  | internal events hn => simp [hi] at hn

end Sys2Proof.Safety
end

section
/-! PROOFS. The encodings (30_encoding R57 to R61, R65, R66): each decoder reads what the encoder writes in its format,
and reads no two words alike. -/

namespace Sys2Proof.Machine

/-- The op-select format is the host operations' (30_encoding R65, R66). -/
theorem format_of_isHost {i : Instr} (hi : i.isHost = true) : i.format = .opsel8 := by
  cases i <;> cases hi <;> rfl

/-- Each host operation, with any operands, is read from its op-select code and lanes. -/
theorem decodeOpSelect_encode {i : Instr} (hi : i.isHost = true) : decodeOpSelect (encode i) = .ok i := by
  cases i <;> cases hi <;> rfl

/-- The op-select codes are those below `0x14`. -/
theorem encode_code_lt {i : Instr} (hi : i.isHost = true) : (encode i).code.toNat < 0x14 := by
  cases i <;> cases hi <;> simp [encode, Request.plain]

/-- Each of the twenty branches has matched the code the encoder writes. -/
theorem encode_code_of_decodeOpSelect {r : Request} {i : Instr} (h : decodeOpSelect r = .ok i) :
    (encode i).code = r.code := by
  unfold decodeOpSelect at h
  split at h <;> cases h <;> exact Eq.symm ‹_›

theorem fieldBit_getLsbD_zero (b : Bool) : (fieldBit b 0).getLsbD 0 = b := by cases b <;> decide

theorem decodeCommand_encode {i : Instr} (hi : i.format = .cmd8) : decodeCommand (encode i).code = .ok i := by
  cases i with
  | clearDisplay | returnHome => rfl
  | entryModeSet i s => cases i <;> cases s <;> rfl
  | displayControl d c b => cases d <;> cases c <;> cases b <;> rfl
  | cursorShift m r => cases m <;> cases r <;> rfl
  | functionSet w n f => cases w <;> cases n <;> cases f <;> rfl
  | setCgramAddr l => revert l; decide
  | setDdramAddr a => revert a; decide
  | _ => cases hi

theorem decodeNibbleByte_encode (d : Nibble) (s : Bool) :
    decodeNibbleByte (encode (.nibbleByte d s)).code = .ok (.nibbleByte d s) := by
  cases s <;> revert d <;> decide

theorem decodeExpanderByte_encode (d : Nibble) (b e s : Bool) :
    decodeExpanderByte (encode (.expanderByte d b e s)).code = .ok (.expanderByte d b e s) := by
  cases b <;> cases e <;> cases s <;> revert d <;> decide

/-- Settles O6: the decoder of each format reads what the encoder writes. Only the operand of `WRITE_NIBBLE` need be
well-formed for it. -/
theorem decodeOfEncodeIsIdentity : Obligations.DecodeOfEncodeIsIdentity := by
  intro i hi
  by_cases hhost : i.isHost = true
  · rw [format_of_isHost hhost]
    exact decodeOpSelect_encode hhost
  cases i with
  | sendByte value isData => simp only [Instr.format, decodeAs, encode, fieldBit_getLsbD_zero]
  | writeNibble nb => exact if_pos (of_decide_eq_true hi)
  | expanderWrite | dataByte | initNibble8Bit | initNibble4Bit => rfl
  | nibbleByte d s => exact decodeNibbleByte_encode d s
  | expanderByte d b e s => exact decodeExpanderByte_encode d b e s
  | clearDisplay | returnHome | entryModeSet | displayControl | cursorShift | functionSet | setCgramAddr
  | setDdramAddr => exact decodeCommand_encode rfl
  | _ => exact absurd rfl hhost

/-- Settles O5: both directions are the op-select decoder's. -/
theorem hostPresentsExactlyTheTwenty : Obligations.HostPresentsExactlyTheTwenty :=
  ⟨fun _ _ => isHost_of_decodeOpSelect, fun _ => decodeOpSelect_encode⟩

/-- In each of the eight branches the pattern has checked every bit that is no field (30_encoding R59). -/
theorem encode_of_decodeCommand {b : Byte} {i : Instr} (h : decodeCommand b = .ok i) :
    i.format = .cmd8 ∧ encode i = Request.plain b := by
  unfold decodeCommand at h
  split_ifs at h <;> cases h <;> revert b <;> decide

theorem encode_of_decodeLiteral {b : Byte} {i : Instr} (h : decodeLiteral b = .ok i) :
    i.format = .literal ∧ encode i = Request.plain b := by
  unfold decodeLiteral at h
  split_ifs at h <;> cases h <;> subst b <;> exact ⟨rfl, rfl⟩

theorem encode_of_decodeNibbleByte {b : Byte} {i : Instr} (h : decodeNibbleByte b = .ok i) :
    i.format = .nb8 ∧ encode i = Request.plain b := by
  unfold decodeNibbleByte at h
  split_ifs at h
  cases h
  revert b
  decide

theorem encode_of_decodeExpanderByte {b : Byte} {i : Instr} (h : decodeExpanderByte b = .ok i) :
    i.format = .xb8 ∧ encode i = Request.plain b := by
  unfold decodeExpanderByte at h
  split_ifs at h
  cases h
  revert b
  decide

/-- Settles O7, decoder by decoder. -/
theorem encodeOfDecodeIsIdentity : Obligations.EncodeOfDecodeIsIdentity := by
  refine ⟨fun f b i hf h => ?_, fun r i h =>
    ⟨format_of_isHost (isHost_of_decodeOpSelect h), encode_code_of_decodeOpSelect h⟩⟩
  cases f with
  | opsel8 => exact absurd rfl hf
  | cmd8 => exact encode_of_decodeCommand h
  | literal => exact encode_of_decodeLiteral h
  | nb8 => exact encode_of_decodeNibbleByte h
  | xb8 => exact encode_of_decodeExpanderByte h
  | expanderWrite | data8 =>
    cases h
    exact ⟨rfl, rfl⟩
  | sendByte =>
    cases h
    simp [Instr.format, encode, fieldBit, Request.plain]
  | writeNibble =>
    simp only [decodeAs] at h
    split_ifs at h
    cases h
    exact ⟨rfl, rfl⟩

/-- Settles O4: what decodes is a host operation and has its code, so a code from `0x14` up does not decode. -/
theorem unknownOpSelectIsRefused : Obligations.UnknownOpSelectIsRefused := by
  intro s r rest hp hcode
  rw [step]
  rcases fetch_cases s with ⟨hnil, -⟩ | ⟨r', rest', i, hp', hd, -⟩ | ⟨r', rest', e, -, -, hf⟩
  · cases hp.symm.trans hnil
  · cases hp.symm.trans hp'
    have hlt := encode_code_lt (isHost_of_decodeOpSelect hd)
    rw [encode_code_of_decodeOpSelect hd] at hlt
    omega
  · rw [hf]

/-- Settles O8, by evaluating the decoders on the nine words. -/
theorem wordsOfTheTableDecode : Obligations.WordsOfTheTableDecode :=
  ⟨rfl, rfl, rfl, rfl, rfl, rfl, rfl, rfl, rfl⟩

end Sys2Proof.Machine
end

section
/-! PROOFS. The emitted rows: what each sends (30_encoding R57 to R61), which is the word its encoding gives. -/

namespace Sys2Proof.Machine

open Sys2Proof.Safety

/-- The byte a command row sends: its code OR-ed with the masks of its fields (30_encoding R59, R62); 0,
unused, for the other rows. -/
def commandByteOf (c : Config) : Instr → Byte
  | .clearDisplay => c.cmdClearDisplay
  | .returnHome => c.cmdReturnHome
  | .entryModeSet i sh => entryModeCommand c (modeFields c i sh)
  | .displayControl d cursor b => displayControlCommand c (controlFields c d cursor b)
  | .cursorShift m r => cursorShiftCommand c m r
  | .functionSet w n f => functionSetCommand c (functionFields c w n f)
  | .setCgramAddr l => cgramCommand (l.setWidth 8)
  | .setDdramAddr a => c.cmdSetDdramAddr ||| a.setWidth 8
  | _ => 0#8

theorem exec_of_format_cmd8 {i : Instr} (hi : i.format = .cmd8) (s : State) :
    exec i s = .next (sending s false (commandByteOf s.config i)) := by
  rw [← State.command_eq]
  cases i with
  | clearDisplay | returnHome | entryModeSet | displayControl | cursorShift | functionSet | setCgramAddr
  | setDdramAddr => rfl
  | _ => cases hi

/-- With the default codes the byte of a command row is its word. -/
theorem commandByteOf_standardConfig {i : Instr} (hi : i.format = .cmd8) :
    commandByteOf standardConfig i = (encode i).code := by
  cases i with
  | clearDisplay | returnHome | setDdramAddr => rfl
  | entryModeSet i s => cases i <;> cases s <;> rfl
  | displayControl d c b => cases d <;> cases c <;> cases b <;> rfl
  | cursorShift m r => cases m <;> cases r <;> rfl
  | functionSet w n f => cases w <;> cases n <;> cases f <;> rfl
  | setCgramAddr l => revert l; decide
  | _ => cases hi

/-- The pattern `01lll000` (30_encoding R59). -/
theorem cgramCommand_eq_append (l : BitVec 3) : cgramCommand (l.setWidth 8) = 0b01#2 ++ l ++ 0#3 := by
  revert l
  decide

theorem nibbleByteOf_eq_encode (d : Nibble) (rs : Bool) :
    nibbleByteOf d rs = (encode (.nibbleByte d rs)).code := by
  cases rs <;> rfl

/-- The pattern `dddd000s` (R58). -/
theorem nibbleByteOf_eq_append (d : Nibble) (rs : Bool) : nibbleByteOf d rs = d ++ 0#3 ++ BitVec.ofBool rs := by
  cases rs <;> revert d <;> decide

theorem expanderByteOf_eq_encode (d : Nibble) (b e rs : Bool) :
    expanderByteOf d b e rs = (encode (.expanderByte d b e rs)).code := by
  cases b <;> cases e <;> cases rs <;> rfl

/-- The pattern `ddddbe0s` (R57). -/
theorem expanderByteOf_eq_append (d : Nibble) (b e rs : Bool) :
    expanderByteOf d b e rs = d ++ BitVec.ofBool b ++ BitVec.ofBool e ++ 0#1 ++ BitVec.ofBool rs := by
  cases b <;> cases e <;> cases rs <;> revert d <;> decide

theorem exec_dataByte (v : Byte) (s : State) : exec (.dataByte v) s = .next (sending s true v) :=
  congrArg Host.Outcome.next (s.writeData_eq v)

theorem exec_initNibble8Bit (s : State) : exec .initNibble8Bit s = .next (sendingNibble s 0x30#8) :=
  congrArg Host.Outcome.next (s.writeNibble_eq _)

theorem exec_initNibble4Bit (s : State) : exec .initNibble4Bit s = .next (sendingNibble s 0x20#8) :=
  congrArg Host.Outcome.next (s.writeNibble_eq _)

theorem exec_nibbleByte (d : Nibble) (rs : Bool) (s : State) :
    exec (.nibbleByte d rs) s = .next (sendingNibble s (nibbleByteOf d rs)) :=
  congrArg Host.Outcome.next (s.writeNibble_eq _)

theorem exec_expanderByte (d : Nibble) (b e rs : Bool) (s : State) :
    exec (.expanderByte d b e rs) s = .next (sendingBusByte s (expanderByteOf d b e rs)) :=
  congrArg Host.Outcome.next (s.writeExpander_eq _)

/-- Settles O17: a command row sends `commandByteOf`. -/
theorem commandRowsSendCodeAndFlags : Obligations.CommandRowsSendCodeAndFlags := by
  intro s
  refine ⟨exec_of_format_cmd8 rfl s, exec_of_format_cmd8 rfl s, fun _ _ => exec_of_format_cmd8 rfl s,
    fun _ _ _ => exec_of_format_cmd8 rfl s, fun _ _ => exec_of_format_cmd8 rfl s,
    fun _ _ _ => exec_of_format_cmd8 rfl s, fun l => ?_, fun _ => exec_of_format_cmd8 rfl s⟩
  rw [← cgramCommand_eq_append]
  exact exec_of_format_cmd8 rfl s

/-- Settles O18, row by row. -/
theorem dataNibbleAndExpanderRowsSendTheirFields : Obligations.DataNibbleAndExpanderRowsSendTheirFields := fun s =>
  ⟨fun v => exec_dataByte v s, exec_initNibble8Bit s, exec_initNibble4Bit s,
    fun d rs => nibbleByteOf_eq_append d rs ▸ exec_nibbleByte d rs s,
    fun d b e rs => expanderByteOf_eq_append d b e rs ▸ exec_expanderByte d b e rs s⟩

/-- Settles O16, format by format: the byte each row sends is its word. -/
theorem emittedRowsSendTheirWord : Obligations.EmittedRowsSendTheirWord := by
  intro i s hc
  refine ⟨fun hi => ?_, fun hi => ?_, fun hi => ?_, fun hi => ?_⟩
  · rw [exec_of_format_cmd8 hi, hc, commandByteOf_standardConfig hi]
  · cases i with
    | dataByte v => exact exec_dataByte v s
    | _ => cases hi
  · cases i with
    | initNibble8Bit => exact exec_initNibble8Bit s
    | initNibble4Bit => exact exec_initNibble4Bit s
    | nibbleByte d rs => exact nibbleByteOf_eq_encode d rs ▸ exec_nibbleByte d rs s
    | _ => rcases hi with hi | hi <;> cases hi
  · cases i with
    | expanderByte d b e rs => exact expanderByteOf_eq_encode d b e rs ▸ exec_expanderByte d b e rs s
    | _ => cases hi

/-- With the default masks the fields of a display-control command are bits 2 to 0 of the register (30_encoding R59). -/
theorem controlFields_standardConfig {v : Byte} (hv : v ≤ 0x07#8) :
    controlFields standardConfig (v.getLsbD 2) (v.getLsbD 1) (v.getLsbD 0) = v := by
  revert v
  decide

/-- Settles O47: the operation sends the new register `v` whole, and the row's fields make up `v`. -/
theorem controlOperationsSendTheirTableRow : Obligations.ControlOperationsSendTheirTableRow := by
  intro i s t hc hflags hi h
  obtain ⟨-, mask, on, hm, rfl⟩ := exec_controlOp_next hi h
  have hle : moveFlag on s.controlFlags mask ≤ 0x07#8 := moveFlag_control_le hi (hc ▸ hm) hflags
  generalize moveFlag on s.controlFlags mask = v at hle
  have hnew : (s.updateControl v).controlFlags = v := rfl
  rw [hnew, exec_of_format_cmd8 rfl, State.updateControl_eq, commandByteOf, displayControlCommand]
  rw [hc, controlFields_standardConfig hle]

/-- Settles O48: behind the phase gate each operation is its row's command and the settle. -/
theorem clearAndHomeAreTheirRowAndASettle : Obligations.ClearAndHomeAreTheirRowAndASettle := by
  intro s t u hr ht hu
  cases ht
  cases hu
  exact ⟨whenReady_ready hr _, whenReady_ready hr _⟩

/-- The slot is masked to its low three bits (30_encoding R63 d). -/
theorem cgramCommand_mod (slot : Byte) : cgramCommand (BitVec.ofNat 8 (slot.toNat % 8)) = cgramCommand slot := by
  revert slot
  decide

/-- Settles O32: the slot is read by `cgramCommand` alone. -/
theorem createCharSlotWraps : Obligations.CreateCharSlotWraps := by
  intro slot rows s
  change execCreateChar slot rows s = execCreateChar _ rows s
  rw [execCreateChar, execCreateChar, cgramCommand_mod]

end Sys2Proof.Machine
end

section
/-! PROOFS. The bytes a host operation puts on the bus: whole enable pulses (30_encoding R69, 70_reset_and_hazards R133
H-d), and no command but those of 30_encoding R70. -/

namespace Sys2Proof.Safety

open Sys2Proof.Machine

theorem wholePulses_append {a b : List Byte} (ha : wholePulses a = true) (hb : wholePulses b = true) :
    wholePulses (a ++ b) = true := by
  induction a using wholePulses.induct with
  | case1 => exact hb
  | case2 x y z rest ih =>
    simp only [wholePulses, List.cons_append, Bool.and_eq_true] at ha ⊢
    exact ⟨ha.1, ih ha.2⟩
  | case3 a hnil hshort =>
    match a, hnil, hshort, ha with
    | _ :: _ :: _ :: _, _, h, _ => exact absurd rfl (h _ _ _ _)

/-- A nibble transfer is one pulse, if its byte has the enable bit clear of itself (40_transport R74). -/
theorem wholePulses_nibbleTransfer (c : Config) (on : Bool) {nb : Byte} (hnb : nb.getLsbD 2 = false) :
    wholePulses (busBytes (nibbleTransfer c on nb)) = true := by
  have hpulse : ∀ on : Bool, ∀ nb : Byte, nb.getLsbD 2 = false →
      wholePulses [nb ||| lamp on, nb ||| 0x04#8 ||| lamp on, nb &&& 0xFB#8 ||| lamp on] = true := by decide
  exact hpulse on nb hnb

theorem wholePulses_sendByteEvents (c : Config) (on : Bool) (v : Byte) (isData : Bool) :
    wholePulses (busBytes (sendByteEvents c on v isData)) = true := by
  rw [sendByteEvents_eq, byteTransfer, busBytes_append]
  refine wholePulses_append (wholePulses_nibbleTransfer c on ?_) (wholePulses_nibbleTransfer c on ?_) <;>
    cases isData <;> simp [select]

theorem wholePulses_transmit (c : Config) (on : Bool) (sent : List (Bool × Byte)) :
    wholePulses (busBytes (transmit c on sent)) = true := by
  induction sent with
  | nil => rfl
  | cons p rest ih =>
    rw [transmit, List.flatMap_cons, busBytes_append]
    exact wholePulses_append (wholePulses_sendByteEvents ..) ih

theorem busBytes_delays (waits : List Nat) : busBytes (waits.map .delay) = [] := by
  induction waits with
  | nil => rfl
  | cons ns rest ih => exact ih

/-- The expander reset comes first and the four initialization nibbles after it (41_configure_init R81 to R83). -/
theorem busBytes_initEvents (c : Config) :
    ∃ rest, busBytes (initEvents c true) = 0x08#8 :: rest ∧ wholePulses rest = true := ⟨_, rfl, rfl⟩

theorem wholePulses_handshakeCommandEvents (c : Config) (on : Bool) (fs : Byte) :
    wholePulses (busBytes (handshakeCommandEvents c on fs)) = true := by
  simp only [handshakeCommandEvents, busBytes_append]
  have hsend v := wholePulses_sendByteEvents c on v false
  exact wholePulses_append (hsend _) (wholePulses_append (hsend _) (wholePulses_append
    (wholePulses_append (hsend _) rfl) (wholePulses_append (hsend _) (wholePulses_append (hsend _) rfl))))

theorem busBytes_handshakeOf (c : Config) (fs : Byte) :
    ∃ rest, busBytes (handshakeOf c true fs) = 0x08#8 :: rest ∧ wholePulses rest = true := by
  obtain ⟨rest, hrest, hpulses⟩ := busBytes_initEvents c
  refine ⟨rest ++ busBytes (handshakeCommandEvents c true fs), ?_,
    wholePulses_append hpulses (wholePulses_handshakeCommandEvents c true fs)⟩
  rw [handshakeOf_eq_append, busBytes_append, hrest, List.cons_append]

/-- The command bytes a host operation other than `CONFIGURE` sends: one without flags, or one with its own new flag
register (42_display_commands R95, R104). -/
inductive SentCommand (i : Instr) (s : State) : Byte → Prop where
  | flagless {v : Byte} : FlaglessCommand s.config v → SentCommand i s v
  | control {mask : Byte} {on : Bool} : isControlOp i = true → flagMaskOf s.config i = some (mask, on) →
      SentCommand i s (displayControlCommand s.config (moveFlag on s.controlFlags mask))
  | mode {mask : Byte} {on : Bool} : isModeOp i = true → flagMaskOf s.config i = some (mask, on) →
      SentCommand i s (entryModeCommand s.config (moveFlag on s.modeFlags mask))

/-- What a host operation other than `CONFIGURE` adds to the trace: whole bytes and waits. -/
theorem added_eq_transmit {i : Instr} {s t : State} (hi : i.isHost = true) (hconf : isConfigure i = false)
    (h : exec i s = .next t) :
    ∃ (sent : List (Bool × Byte)) (waits : List Nat),
      added s t = transmit s.config s.backlightState sent ++ waits.map .delay ∧
      ∀ v, (false, v) ∈ sent → SentCommand i s v := by
  cases exec_effect h with
  | configure => cases hconf
  | control hop hm => exact ⟨[(false, _)], [], added_eq_of_trace rfl, by simpa using .control hop hm⟩
  | mode hop hm => exact ⟨[(false, _)], [], added_eq_of_trace rfl, by simpa using .mode hop hm⟩
  | backlight on => exact ⟨[], [], added_eq_of_trace (List.append_nil _).symm, nofun⟩
  | send sent waits hr hsent => exact ⟨sent, waits, added_emit .., fun v hv => .flagless (hsent v hv)⟩
  | internal events hn => simp [hi] at hn

/-- Settles O42: `CONFIGURE` adds the handshake, every other host operation whole bytes and waits. -/
theorem enablePulsesAreWhole : Obligations.EnablePulsesAreWhole := by
  intro i s t hi h
  cases i with
  | configure columns lines fontVariant =>
    obtain ⟨-, -, rfl⟩ := execConfigure_next h
    rw [initHandshake_eq, added_eq_of_trace rfl]
    exact busBytes_handshakeOf ..
  | _ =>
    obtain ⟨sent, waits, hadded, -⟩ := added_eq_transmit hi rfl h
    rw [hadded, busBytes_append, busBytes_delays, List.append_nil]
    exact wholePulses_transmit ..

/-- Bytes that are carried are read back from their events alone, the line before them being unknown (20_memory R56). -/
theorem pairNibbles_latched_of_carries {events : List Event} {sent : List (Bool × Byte)} (h : Carries events sent) :
    pairNibbles (latched (busBytes events)) = sent := by
  have hlow : (0#8 : Byte).getLsbD 2 = false := rfl
  rw [latched_eq_latchedAfter hlow, (h _ hlow).1, pairNibbles_flatMap_nibblesOf]

/-- With the default masks a register that holds control flags alone is at most 7 (10_state R20). -/
theorem le_of_within_controlMask {v : Byte} (hv : v &&& ~~~controlMask standardConfig = 0#8) : v ≤ 0x07#8 := by
  revert v
  decide

/-- With the default masks a register that holds mode flags alone is at most 3 (R21). -/
theorem le_of_within_modeMask {v : Byte} (hv : v &&& ~~~modeMask standardConfig = 0#8) : v ≤ 0x03#8 := by
  revert v
  decide

theorem isEmittedCommand_displayControl {v : Byte} (hv : v ≤ 0x07#8) :
    isEmittedCommand (displayControlCommand standardConfig v) = true := by
  revert v
  decide

theorem isEmittedCommand_entryMode {v : Byte} (hv : v ≤ 0x03#8) :
    isEmittedCommand (entryModeCommand standardConfig v) = true := by
  revert v
  decide

theorem isEmittedCommand_of_flagless {v : Byte} (h : FlaglessCommand standardConfig v) : isEmittedCommand v = true := by
  cases h with
  | clear | home => rfl
  | shift right => cases right <;> rfl
  | cgram slot => revert slot; decide
  | ddram address => revert address; decide

/-- With the default codes and legal registers every such command is in the list of 30_encoding R70. -/
theorem isEmittedCommand_of_sentCommand {i : Instr} {s : State} {v : Byte} (hc : s.config = standardConfig)
    (hregs : RegistersLegal s) (hv : SentCommand i s v) : isEmittedCommand v = true := by
  have hcontrol : s.controlFlags ≤ 0x07#8 := le_of_within_controlMask (hc ▸ hregs.controlFlags)
  have hmode : s.modeFlags ≤ 0x03#8 := le_of_within_modeMask (hc ▸ hregs.modeFlags)
  cases hv with
  | flagless hf => exact isEmittedCommand_of_flagless (hc ▸ hf)
  | control hop hm =>
    rw [hc] at hm ⊢
    exact isEmittedCommand_displayControl (moveFlag_control_le hop hm hcontrol)
  | mode hop hm =>
    rw [hc] at hm ⊢
    exact isEmittedCommand_entryMode (moveFlag_mode_le hop hm hmode)

/-- Settles O43: what is read back from the added events are the commands sent. -/
theorem commandBytesAreTheListed : Obligations.CommandBytesAreTheListed := by
  intro i s t hc hr hregs hi h v hv
  have hconf : isConfigure i = false := by
    cases i with
    | configure => cases hr.symm.trans (execConfigure_next h).1
    | _ => rfl
  obtain ⟨sent, waits, hadded, hsent⟩ := added_eq_transmit hi hconf h
  have hcarries := (carries_transmit s.config s.backlightState sent).append (carries_delays waits)
  rw [hadded, pairNibbles_latched_of_carries hcarries, List.append_nil, mem_sentCommands] at hv
  exact isEmittedCommand_of_sentCommand hc hregs (hsent v hv)

end Sys2Proof.Safety
end

section
/-! PROOFS. The command byte of `SET_CURSOR` as a number (30_encoding R63 e). -/

namespace Sys2Proof.Machine

open Sys2Proof.Safety

/-- The offset of a row, as the table of 42_display_commands R94 gives it in numbers. -/
theorem rowOffset_toNat {r : Nat} {offset : Byte} (h : rowOffset r = some offset) :
    offset.toNat = ([0, 64, 20, 84] : List Nat).getD r 0 := by
  match r, h with
  | 0, h | 1, h | 2, h | 3, h =>
    cases h
    rfl

theorem configLawful_cmdSetDdramAddr {c : Config} (h : configLawful c = true) : c.cmdSetDdramAddr = 0x80#8 := by
  simp only [configLawful, Bool.and_eq_true, beq_iff_eq] at h
  obtain ⟨⟨⟨-, hcode⟩, -⟩, -⟩ := h
  exact hcode

/-- The code `0x80` OR-ed with a sum modulo 256 is 128 plus the sum modulo 128 (30_encoding R63 e). -/
theorem toNat_or_ddram (a b : Byte) : (0x80#8 ||| (a + b)).toNat = 128 + (a.toNat + b.toNat) % 128 := by
  have hbit : ∀ x : Byte, (0x80#8 ||| x).toNat = 128 + x.toNat % 128 := by decide
  rw [hbit, BitVec.toNat_add]
  omega

theorem ddramCommand_toNat {c : Config} {lineCount col row v : Byte} (hc : configLawful c = true)
    (hv : ddramCommand c lineCount col row = some v) :
    v.toNat = 128 + (col.toNat + ([0, 64, 20, 84] : List Nat).getD (clampedRow lineCount row) 0) % 128 := by
  unfold ddramCommand at hv
  split at hv
  case isFalse => cases hv
  obtain ⟨offset, hoffset, rfl⟩ := Option.map_eq_some_iff.mp hv
  rw [configLawful_cmdSetDdramAddr hc, toNat_or_ddram, rowOffset_toNat hoffset]

/-- Settles O26: with 1 to 4 lines there is a command byte, and with lawful parameters it has this value. -/
theorem setCursorAddressIsSevenBits : Obligations.SetCursorAddressIsSevenBits := by
  intro col row s hr hc h1 h4
  obtain ⟨v, hv⟩ := ddramCommand_isSome s.config h1 h4 col row
  exact ⟨v, by rw [← State.command_eq]; exact execSetCursor_ready hr hv, ddramCommand_toNat hc hv⟩

end Sys2Proof.Machine
end

section
/-! PROOFS. The three transport operations (40_transport R73 to R76): what each adds to the state, the byte read back
from its bus bytes, and the latch observer at a seam. -/

namespace Sys2Proof.Safety

open Sys2Proof.Machine

/-- Settles O9: the merge is an OR with bit 3 alone (`State.writeExpander_eq` is the state). -/
theorem expanderWriteEmitsOneBusByte : Obligations.ExpanderWriteEmitsOneBusByte := by
  intro b s
  have hlamp : (lamp s.backlightState).getLsbD 3 = s.backlightState := by cases s.backlightState <;> rfl
  exact ⟨congrArg Host.Outcome.next (s.writeExpander_eq b), by rw [BitVec.getLsbD_or, hlamp]⟩

/-- Settles O10. -/
theorem writeNibbleStrobesEnable : Obligations.WriteNibbleStrobesEnable := fun nb s =>
  congrArg Host.Outcome.next (s.writeNibble_eq nb)

/-- Settles O11. -/
theorem sendByteIsTwoNibbleTransfers : Obligations.SendByteIsTwoNibbleTransfers := fun v isData s =>
  congrArg Host.Outcome.next (s.sendByte_eq v isData)

theorem eventLegal_busWrite {address : BusAddress} {bytes : List Byte}
    (h : eventLegal (.busWrite address bytes) = true) : ∃ x : Byte, bytes = [x] ∧ x.getLsbD 1 = false := by
  match bytes, h with
  | [x], h => exact ⟨x, rfl, by simpa using (Bool.and_eq_true_iff.mp h).2⟩

/-- Every bus byte of legal events has the read/write bit clear (20_memory R37, R49). -/
theorem getLsbD_one_of_mem_busBytes {events : List Event} (h : events.all eventLegal = true) :
    ∀ b ∈ busBytes events, b.getLsbD 1 = false := by
  induction events with
  | nil => simp [busBytes]
  | cons e rest ih =>
    obtain ⟨he, hrest⟩ : eventLegal e = true ∧ rest.all eventLegal = true := by simpa using h
    cases e with
    | delay ns => exact ih hrest
    | busWrite address bytes =>
      obtain ⟨x, rfl, hx⟩ := eventLegal_busWrite he
      exact List.forall_mem_cons.mpr ⟨hx, ih hrest⟩

/-- Every bus byte of a byte transfer has bit 1 clear and bit 3 the backlight (40_transport R76 c, d). -/
theorem bits_of_mem_busBytes_sendByteEvents (c : Config) (on : Bool) (v : Byte) (isData : Bool) :
    ∀ b ∈ busBytes (sendByteEvents c on v isData), b.getLsbD 1 = false ∧ b.getLsbD 3 = on := fun b hb =>
  ⟨getLsbD_one_of_mem_busBytes (all_eventLegal_sendByteEvents c on v isData) b hb,
    by simpa using List.all_eq_true.mp (lit_sendByteEvents c on v isData) b hb⟩

/-- The byte that ends a nibble transfer still has the nibble on its data lines (R74). -/
theorem dataNibble_nibbleTransfer_end (nb : Byte) (on : Bool) :
    (nb &&& 0xFB#8 ||| lamp on).extractLsb' 4 4 = nb.extractLsb' 4 4 := by
  cases on <;> revert nb <;> decide

/-- The data nibbles of the two nibble bytes of R75 are the two halves of the value. -/
theorem dataNibbles_append (v : Byte) (isData : Bool) :
    (v &&& 0xF0#8 ||| select isData).extractLsb' 4 4 ++ (v <<< 4 &&& 0xF0#8 ||| select isData).extractLsb' 4 4 = v := by
  have hpair := pairNibbles_flatMap_nibblesOf [(isData, v)]
  rw [List.flatMap_singleton, nibblesOf_eq, pairNibbles] at hpair
  exact congrArg Prod.snd (List.cons.inj hpair).1

/-- Settles O14: the third and the sixth bus byte end the two nibble transfers. -/
theorem sentByteIsRecoverable : Obligations.SentByteIsRecoverable := by
  intro v isData s t h
  cases h
  have hbits := bits_of_mem_busBytes_sendByteEvents s.config s.backlightState v isData
  rw [State.sendByte, added_emit]
  rw [sendByteEvents_eq, byteTransfer, busBytes_append, busBytes_nibbleTransfer, busBytes_nibbleTransfer] at hbits ⊢
  refine ⟨_, _, _, _, _, _, rfl, hbits, ?_⟩
  rw [dataNibble_nibbleTransfer_end, dataNibble_nibbleTransfer_end, dataNibbles_append]

/-- Settles O15: begun behind a low line, the observer reaches the seam with the last byte of `a` on the lines, or still
the low line where `a` is empty. -/
theorem latchedOfConcatenation : Obligations.LatchedOfConcatenation := by
  intro a b ha
  have hlow : (0#8 : Byte).getLsbD 2 = false := rfl
  calc latched (a ++ b) = latchedAfter 0#8 (a ++ b) := latched_eq_latchedAfter hlow _
    _ = latchedAfter 0#8 a ++ latchedAfter (a.getLastD 0#8) b := latchedAfter_append ..
    _ = latched a ++ latched b := by rw [← latched_eq_latchedAfter hlow, ← latched_eq_latchedAfter ha]

end Sys2Proof.Safety
end

section
/-! PROOFS. `CONFIGURE` (41_configure_init R78 to R89): the state it answers, and what the bus, the latch and the operands
see of its handshake. -/

namespace Sys2Proof.Safety

open Sys2Proof.Machine

theorem linesLegal_iff {lines : Byte} : linesLegal lines = true ↔ 1 ≤ lines.toNat ∧ lines.toNat ≤ 4 := by
  simp [linesLegal]

theorem execConfigure_ready {s : State} (hr : s.phase = .ready) (columns lines font : Byte) :
    execConfigure columns lines font s = .refused .configureTwice := by
  simp [execConfigure, hr]

theorem execConfigure_unconfigured {s : State} (hu : s.phase = .unconfigured) (columns lines font : Byte) :
    execConfigure columns lines font s =
      if linesLegal lines then .next (initHandshake (s.withGeometry columns lines font))
      else .refused .linesOutOfRange := by
  simp [execConfigure, hu]

/-- Behind a byte transfer the expander holds its last bus byte (40_transport R75, 10_state R26): the ghost of the state
that sends it. -/
theorem lastBusByte_sendByteEvents (x : Byte) (c : Config) (on : Bool) (v : Byte) (isData : Bool) :
    lastBusByte x (sendByteEvents c on v isData) = (v <<< 4 &&& 0xF0#8 ||| select isData ||| lamp on) :=
  congrArg State.xlatch (State.sendByte_eq { State.reset with config := c, backlightState := on, xlatch := x } v isData)

/-- The handshake ends with the return-home byte, whatever the expander held before it (41_configure_init R88). -/
theorem lastBusByte_handshakeOf (x : Byte) (c : Config) (fs : Byte) :
    lastBusByte x (handshakeOf c true fs) = (c.cmdReturnHome <<< 4 &&& 0xF0#8 ||| 0x08#8) := by
  rw [handshakeOf, lastBusByte_append, lastBusByte_append, lastBusByte_sendByteEvents]
  simp [lastBusByte, select, lamp]

/-- The register set-up and the nine steps together give the state of 10_state R34. -/
theorem initHandshake_withGeometry_eq_configured (s : State) (columns lines font : Byte) :
    initHandshake (s.withGeometry columns lines font) = configured s columns lines font := by
  rw [configured, ← functionFlagsOf_eq, ← handshakeOf_eq,
    ← lastBusByte_handshakeOf s.xlatch s.config (functionFlagsOf s.config lines font)]
  exact initHandshake_eq _

/-- Settles O19: behind the two checks of `execConfigure` stands the handshake. -/
theorem configureRunsTheHandshake : Obligations.ConfigureRunsTheHandshake := by
  intro columns lines font s
  refine ⟨fun hu h1 h4 => ?_, fun hr => execConfigure_ready hr .., fun hu hout => ?_⟩
  · rw [exec, execConfigure_unconfigured hu, if_pos (linesLegal_iff.mpr ⟨h1, h4⟩),
      initHandshake_withGeometry_eq_configured]
  · rw [exec, execConfigure_unconfigured hu, if_neg]
    rw [linesLegal_iff]
    omega

/-- A `CONFIGURE` that answers a next state had one to four lines and answers the configured state. -/
theorem exec_configure_next {columns lines font : Byte} {s t : State}
    (h : exec (.configure columns lines font) s = .next t) :
    1 ≤ lines.toNat ∧ lines.toNat ≤ 4 ∧ t = configured s columns lines font := by
  obtain ⟨-, hl, rfl⟩ := execConfigure_next h
  obtain ⟨h1, h4⟩ := linesLegal_iff.mp hl
  exact ⟨h1, h4, initHandshake_withGeometry_eq_configured ..⟩

/-- With the default parameters, the function-set command of each kind of display (41_configure_init R79, R84). -/
theorem functionSetCommand_standardConfig {lines : Byte} (h1 : 1 ≤ lines.toNat) (font : Byte) :
    functionSetCommand standardConfig (configuredFunctionFlags standardConfig lines font) =
      if 1 < lines.toNat then 0x28#8 else if font = 0#8 then 0x20#8 else 0x24#8 := by
  by_cases hlines : 1 < lines.toNat
  · have hone : lines.toNat ≠ 1 := by omega
    simp [configuredFunctionFlags, hlines, hone, functionSetCommand, standardConfig]
  · have hone : lines.toNat = 1 := by omega
    by_cases hfont : font = 0#8 <;> simp [configuredFunctionFlags, hone, hfont, functionSetCommand, standardConfig]

/-- Settles O20: of the handshake's bytes those of the function-set command alone vary, and it is one of three. -/
theorem configureBusBytes : Obligations.ConfigureBusBytes := by
  intro columns lines font s t hc h
  obtain ⟨h1, -, rfl⟩ := exec_configure_next h
  have hadded : added s (configured s columns lines font) = handshakeEvents standardConfig
      (functionSetCommand standardConfig (configuredFunctionFlags standardConfig lines font)) := by
    rw [← hc]
    exact added_eq_of_trace rfl
  rw [hadded, functionSetCommand_standardConfig h1]
  split
  · rfl
  · split <;> rfl

/-- The trace of a `CONFIGURE`, by the transport's own event lists. -/
theorem configured_trace (s : State) (columns lines font : Byte) :
    (configured s columns lines font).trace =
      s.trace ++ handshakeOf s.config true (configuredFunctionFlags s.config lines font) := by
  rw [handshakeOf_eq]
  rfl

/-- Settles O21: the initialization events are framed and send no whole byte, and the five commands are carried behind
them. -/
theorem configureLatchesTheHandshakeInOrder : Obligations.ConfigureLatchesTheHandshakeInOrder := by
  intro columns lines font s t hc hempty h
  obtain ⟨h1, -, rfl⟩ := exec_configure_next h
  obtain ⟨hframed, hnone⟩ := framed_initEvents true
  have hcarries := carries_handshakeCommandEvents standardConfig true
    (configuredFunctionFlags standardConfig lines font)
  rw [configured_trace, hempty, hc, List.nil_append, handshakeOf_eq_append, hframed.sentBytes_append hcarries, hnone,
    handshakeCommands, functionSetCommand_standardConfig h1]
  exact ⟨(hframed.append hcarries).handshake, rfl⟩

/-- With two or more lines the font is not read. -/
theorem configuredFunctionFlags_of_one_lt (c : Config) {lines : Byte} (h : 1 < lines.toNat) (font : Byte) :
    configuredFunctionFlags c lines font = c.flag2Line := by
  have hone : lines.toNat ≠ 1 := by omega
  simp [configuredFunctionFlags, h, hone]

/-- Settles O22: the operands reach the trace through the function-set flags alone. -/
theorem configureTraceReadsLineClassAndOneLineFont : Obligations.ConfigureTraceReadsLineClassAndOneLineFont := by
  intro c1 l1 f1 c2 l2 f2 s t1 t2 h1 h2 hclass
  obtain ⟨-, -, rfl⟩ := exec_configure_next h1
  obtain ⟨-, -, rfl⟩ := exec_configure_next h2
  have hflags : configuredFunctionFlags s.config l1 f1 = configuredFunctionFlags s.config l2 f2 := by
    rcases hclass with ⟨hl1, hl2⟩ | ⟨rfl, rfl, hfont⟩
    · rw [configuredFunctionFlags_of_one_lt _ hl1, configuredFunctionFlags_of_one_lt _ hl2]
    · simp only [configuredFunctionFlags, ne_eq, hfont]
  rw [configured_trace, configured_trace, hflags]

end Sys2Proof.Safety
end

section
/-! PROOFS. The fifteen display commands (42_display_commands R91 to R108): each answers one byte sent, behind the phase
gate. -/

namespace Sys2Proof.Safety

open Sys2Proof.Machine

section Gate

variable {s : State}

theorem whenReady_next_command (hr : s.phase = .ready) (v : Byte) :
    whenReady s (.next (s.command v)) = .next (sending s false v) := by
  rw [whenReady_ready hr, State.command_eq]

theorem whenReady_next_command_wait (hr : s.phase = .ready) (v : Byte) (ns : Nat) :
    whenReady s (.next ((s.command v).wait ns)) = .next (delaying (sending s false v) ns) := by
  rw [whenReady_ready hr, State.wait_eq, State.command_eq]

theorem whenReady_next_updateControl (hr : s.phase = .ready) (v : Byte) :
    whenReady s (.next (s.updateControl v)) =
      .next (sending { s with controlFlags := v } false (s.config.cmdDisplayControl ||| v)) := by
  rw [whenReady_ready hr, State.updateControl_eq]

theorem whenReady_next_updateMode (hr : s.phase = .ready) (v : Byte) :
    whenReady s (.next (s.updateMode v)) =
      .next (sending { s with modeFlags := v } false (s.config.cmdEntryModeSet ||| v)) := by
  rw [whenReady_ready hr, State.updateMode_eq]

end Gate

/-- Rows 0 to 3 have the offsets of the table of 42_display_commands R94. -/
theorem rowOffset_of_lt {r : Nat} (h : r < 4) : rowOffset r = some (rowOffsets.getD r 0#8) := by
  match r, h with
  | 0, _ | 1, _ | 2, _ | 3, _ => rfl

/-- With 1 to 4 lines the clamped row is one of the table's four, so there is a command byte, and it is this one. -/
theorem ddramCommand_eq_some (c : Config) {lineCount : Byte} (h1 : 1 ≤ lineCount.toNat) (h4 : lineCount.toNat ≤ 4)
    (col row : Byte) : ddramCommand c lineCount col row =
      some (c.cmdSetDdramAddr ||| (col + rowOffsets.getD (clampedRow lineCount row) 0#8)) := by
  have hclamp : clampedRow lineCount row < 4 := by unfold clampedRow; omega
  rw [ddramCommand, if_pos (linesLegal_iff.mpr ⟨h1, h4⟩), rowOffset_of_lt hclamp, Option.map_some]

/-- Settles O24: the command byte exists (`ddramCommand_eq_some`), and a configured block sends it. -/
theorem setCursorSendsTheClampedAddress : Obligations.SetCursorSendsTheClampedAddress := by
  intro col row s hr h1 h4
  have hnext := execSetCursor_ready hr (ddramCommand_eq_some s.config h1 h4 col row)
  rwa [State.command_eq] at hnext

/-- Settles O23: either operation is a command and a wait behind the phase gate. -/
theorem clearAndHomeSendAndSettle : Obligations.ClearAndHomeSendAndSettle := fun _ hr =>
  ⟨whenReady_next_command_wait hr _ _, whenReady_next_command_wait hr _ _⟩

/-- Settles O27: all six are `updateControl` at their new register value. -/
theorem controlFlagOperationsWriteAndFlush : Obligations.ControlFlagOperationsWriteAndFlush := fun _ hr =>
  have update := whenReady_next_updateControl hr
  ⟨update _, update _, update _, update _, update _, update _⟩

/-- Settles O28: all four are `updateMode` at their new register value. -/
theorem modeFlagOperationsWriteAndFlush : Obligations.ModeFlagOperationsWriteAndFlush := fun _ hr =>
  have update := whenReady_next_updateMode hr
  ⟨update _, update _, update _, update _⟩

/-- The left shift carries the move flag alone (42_display_commands R102). -/
theorem cursorShiftCommand_left (c : Config) :
    cursorShiftCommand c true false = c.cmdCursorShift ||| c.flagDisplayMove := BitVec.or_zero

/-- Settles O30: the right shift's byte is its definition, the left one's drops an absent flag. -/
theorem scrollsSendTheShiftCommand : Obligations.ScrollsSendTheShiftCommand := fun s hr =>
  ⟨cursorShiftCommand_left s.config ▸ whenReady_next_command hr _, whenReady_next_command hr _⟩

/-- Every host operation but `CONFIGURE` stands behind the phase gate (42_display_commands R91). -/
theorem exec_eq_whenReady {i : Instr} (hi : i.isHost = true) (hc : isConfigure i = false) (s : State) :
    ∃ k, exec i s = whenReady s k := by
  cases i with
  | clear | home | setCursor | displayOn | displayOff | cursorOn | cursorOff | blinkOn | blinkOff | scrollLeft
  | scrollRight | leftToRight | rightToLeft | autoscrollOn | autoscrollOff | createChar | backlightOn | backlightOff
  | print => exact ⟨_, rfl⟩
  | configure => cases hc
  | _ => cases hi

/-- Settles O36: the phase gate refuses before `CONFIGURE`, whatever stands behind it. -/
theorem nothingRunsBeforeConfigure : Obligations.NothingRunsBeforeConfigure := by
  intro i s hi hc hu
  obtain ⟨k, hk⟩ := exec_eq_whenReady hi hc s
  rw [hk, whenReady_unconfigured hu]

end Sys2Proof.Safety
end

section
/-! PROOFS. Custom characters, the backlight and `PRINT` (43_cgram_backlight_print R109 to R112): behind the phase gate,
one command, one register write, or a run of data bytes counted by `size` alone. -/

namespace Sys2Proof.Safety

open Sys2Proof.Machine

/-- A loop of data writes, by the byte transfer of 40_transport R75 (43 R109, R112). -/
theorem writeAll_eq_emit_byteTransfer (s : State) (bytes : List Byte) :
    s.writeAll bytes = s.emit (bytes.flatMap (byteTransfer s.config s.backlightState true)) := by
  rw [State.writeAll_eq]
  simp only [sendByteEvents_eq]

/-- A command and data writes behind it are one emission. -/
theorem command_writeAll_eq_emit (s : State) (v : Byte) (bytes : List Byte) :
    (s.command v).writeAll bytes = s.emit (byteTransfer s.config s.backlightState false v ++
      bytes.flatMap (byteTransfer s.config s.backlightState true)) := by
  rw [writeAll_eq_emit_byteTransfer, State.command, State.sendByte, State.emit_emit, sendByteEvents_eq]
  rfl

/-- Settles O31: behind the phase gate and the check of the rows, one emission; the parameter `CGRAM_WRITE_ROWS` chooses
between the rows and no data byte. -/
theorem createCharSendsAddressAndRows : Obligations.CreateCharSendsAddressAndRows := by
  intro slot rows s hr
  refine ⟨fun h8 => ?_, fun h8 => ?_⟩
  · rw [exec, execCreateChar, whenReady_ready hr, if_pos h8, command_writeAll_eq_emit, apply_ite (List.flatMap _)]
    rfl
  · rw [exec, execCreateChar, whenReady_ready hr, if_neg h8]

/-- Settles O33: behind the phase gate, one register write. -/
theorem backlightOperationsEmitNothing : Obligations.BacklightOperationsEmitNothing := fun _ hr =>
  ⟨whenReady_ready hr _, whenReady_ready hr _⟩

/-- With enough bytes for the count, `PRINT` reads the counted bytes alone (43 R112). -/
theorem execPrint_of_le {buffer : List Byte} {size : Nat} (h : size - 1 ≤ buffer.length) (s : State) :
    execPrint buffer size s = whenReady s
      (if size = 0 then .refused .printSizeZero else .next (s.writeAll (buffer.take (size - 1)))) := by
  rw [execPrint, if_neg (Nat.not_lt.mpr h)]

/-- The checks of `PRINT` in order (60_exceptions R118): a zero size first, then a short buffer. -/
theorem execPrint_short {buffer : List Byte} {size : Nat} {s : State} (hr : s.phase = .ready) (h1 : 1 ≤ size)
    (hshort : buffer.length < size - 1) : execPrint buffer size s = .refused .printBufferShort := by
  rw [execPrint, whenReady_ready hr, if_neg (Nat.one_le_iff_ne_zero.mp h1), if_pos hshort]

/-- Settles O34: the two refusals are the two checks, and behind them stands the loop of data writes. -/
theorem printSendsTheCountedBytes : Obligations.PrintSendsTheCountedBytes := by
  intro buffer size s hr
  refine ⟨fun h1 hle => ?_, fun h0 => ?_, execPrint_short hr⟩
  · rw [exec, execPrint_of_le hle, whenReady_ready hr, if_neg (Nat.one_le_iff_ne_zero.mp h1),
      writeAll_eq_emit_byteTransfer]
    rfl
  · rw [exec, execPrint, whenReady_ready hr, if_pos h0]

/-- Lists that agree below `n` have the same first `n` elements. -/
theorem take_eq_take_of_getElem? {α : Type} {a b : List α} {n : Nat} (h : ∀ k < n, a[k]? = b[k]?) :
    a.take n = b.take n := by
  refine List.ext_getElem? fun k => ?_
  rw [List.getElem?_take, List.getElem?_take]
  split
  · exact h k ‹_›
  · rfl

/-- Settles O35: both buffers pass the length check, and behind it the counted bytes alone are read. -/
theorem printReadsOnlyTheCountedBytes : Obligations.PrintReadsOnlyTheCountedBytes := by
  intro b1 b2 size s h1 h2 hagree
  rw [exec, exec, execPrint_of_le h1, execPrint_of_le h2, take_eq_take_of_getElem? hagree]

end Sys2Proof.Safety
end

section
/-! PROOFS. When an operation is refused (60_exceptions R113, R116, R118): `refusalOf` names the refusal `exec` ends in,
and a step of the command side is refused for that, or for a code that selects nothing. -/

namespace Sys2Proof.Safety

open Sys2Proof.Machine

/-- The result is the refusal named, or a next state where none is. -/
def AnswersAs (k : Result) : Option Refusal → Prop
  | some why => k = .refused why
  | none => ∃ t, k = .next t

theorem answersAs_next (t : State) : AnswersAs (.next t) none := ⟨t, rfl⟩

theorem answersAs_refused (why : Refusal) : AnswersAs (.refused why) (some why) := rfl

/-- A check that names its refusal on one side of a condition. -/
theorem AnswersAs.ite {k k' : Result} {why why' : Option Refusal} (p : Prop) [Decidable p] (hk : AnswersAs k why)
    (hk' : AnswersAs k' why') : AnswersAs (if p then k else k') (if p then why else why') := by
  split
  · exact hk
  · exact hk'

/-- The phase check comes first (60_exceptions R118), and what is behind it counts in phase ready alone. -/
theorem AnswersAs.whenReady {s : State} {k : Result} {why : Option Refusal} (hk : s.phase = .ready → AnswersAs k why) :
    AnswersAs (whenReady s k) (if s.phase = .unconfigured then some .notConfigured else why) := by
  cases hp : s.phase with
  | ready =>
    rw [whenReady_ready hp]
    exact hk hp
  | unconfigured => exact whenReady_unconfigured hp k

/-- `CONFIGURE` checks the phase and then the line count (60_exceptions R118). -/
theorem execConfigure_answersAs (columns lines font : Byte) (s : State) :
    AnswersAs (execConfigure columns lines font s) (refusalOf (.configure columns lines font) s) := by
  cases hp : s.phase with
  | ready =>
    rw [execConfigure_ready hp]
    simp [refusalOf, Instr.isHost, hp, AnswersAs]
  | unconfigured =>
    simp only [execConfigure_unconfigured hp, refusalOf, Instr.isHost, hp, ← linesLegal_iff]
    exact .ite _ (answersAs_next _) (answersAs_refused _)

/-- With a legal line count `SET_CURSOR` has a command byte to send, so it is behind the phase check alone. -/
theorem execSetCursor_answersAs (col row : Byte) {s : State}
    (hl : s.phase = .ready → 1 ≤ s.lineCount.toNat ∧ s.lineCount.toNat ≤ 4) :
    AnswersAs (execSetCursor col row s) (refusalOf (.setCursor col row) s) :=
  .whenReady fun hr => by
    obtain ⟨h1, h4⟩ := hl hr
    rw [ddramCommand_eq_some s.config h1 h4]
    exact answersAs_next _

/-- Every instruction answers what `refusalOf` says. -/
theorem exec_answersAs (i : Instr) {s : State}
    (hl : s.phase = .ready → 1 ≤ s.lineCount.toNat ∧ s.lineCount.toNat ≤ 4) :
    AnswersAs (exec i s) (refusalOf i s) := by
  cases i with
  | configure columns lines font => exact execConfigure_answersAs columns lines font s
  | setCursor col row => exact execSetCursor_answersAs col row hl
  | createChar slot rows => exact .whenReady fun _ => .ite _ (answersAs_next _) (answersAs_refused _)
  | print buffer size =>
    exact .whenReady fun _ => .ite _ (answersAs_refused _) (.ite _ (answersAs_refused _) (answersAs_next _))
  | clear | home | displayOn | displayOff | cursorOn | cursorOff | blinkOn | blinkOff | scrollLeft | scrollRight
  | leftToRight | rightToLeft | autoscrollOn | autoscrollOff | backlightOn | backlightOff =>
    exact .whenReady fun _ => answersAs_next _
  | _ => exact answersAs_next _

/-- Settles O37: `exec` answers what `refusalOf` says, read once for a refusal and once for none. -/
theorem refusalsAreExactlyTheListed : Obligations.RefusalsAreExactlyTheListed := by
  intro i s hl
  have hanswers := exec_answersAs i hl
  refine ⟨fun why hwhy => ?_, fun hnone => ?_⟩
  · rwa [hwhy] at hanswers
  · rwa [hnone] at hanswers

/-- No reason of 60_exceptions R116 is a want of meaning. -/
theorem refusalOf_ne_notModelled (i : Instr) (s : State) (mnemonic : String) :
    refusalOf i s ≠ some (.notModelled mnemonic) := by
  unfold refusalOf
  split
  · simp
  · split <;> split_ifs <;> simp

/-- A first check passes and the rest names nothing. -/
theorem ite_some_eq_none_iff {α : Type} {p : Prop} [Decidable p] {a : α} {o : Option α} :
    (if p then some a else o) = none ↔ ¬p ∧ o = none := by
  by_cases h : p <;> simp [h]

/-- Nothing is refused exactly where the host keeps its duties (60_exceptions R116, R122). -/
theorem refusalOf_eq_none_iff {i : Instr} (hi : i.isHost = true) (s : State) :
    refusalOf i s = none ↔ i.wellFormed = true ∧ (isConfigure i = true ↔ s.phase = .unconfigured) := by
  cases i with
  | configure columns lines font =>
    cases hp : s.phase <;> simp [refusalOf, Instr.isHost, Instr.wellFormed, isConfigure, hp, linesLegal_iff]
  | createChar slot rows =>
    simp [refusalOf, Instr.isHost, Instr.wellFormed, isConfigure, ite_some_eq_none_iff, and_comm]
  | print buffer size =>
    simp [refusalOf, Instr.isHost, Instr.wellFormed, isConfigure, ite_some_eq_none_iff, printLegal,
      Nat.one_le_iff_ne_zero, and_comm]
  | clear | home | setCursor | displayOn | displayOff | cursorOn | cursorOff | blinkOn | blinkOff | scrollLeft
  | scrollRight | leftToRight | rightToLeft | autoscrollOn | autoscrollOff | backlightOn | backlightOff =>
    simp [refusalOf, Instr.isHost, Instr.wellFormed, isConfigure]
  | _ => cases hi

/-- A host operation that answers a next state leaves the block ready (10_state R25). -/
theorem phase_ready_of_exec_next {i : Instr} {s t : State} (hi : i.isHost = true) (h : exec i s = .next t) :
    t.phase = .ready := by
  obtain ⟨-, -, -, -, -, -, hkeep⟩ := onlyTheNamedOperationsWriteARegister i s t h
  cases exec_effect h with
  | configure => rfl
  | control _ _ hr | mode _ _ hr | backlight _ _ hr | send _ _ hr => exact hkeep hr
  | internal _ hn => cases hi.symm.trans hn

/-- A code that selects nothing is refused (60_exceptions R116 (7)). -/
theorem step_of_decode_error {s : State} {r : Request} {rest : List Request} {e : DecodeError}
    (hp : s.program = r :: rest) (hd : decodeOpSelect r = .error e) : step s = .refused .badOpSelect := by
  simp [step, fetch, hp, hd]

/-- Settles O49: a code that selects nothing is refused, and for an operation the host's duties are that `refusalOf`
names nothing, which decides what the step answers. -/
theorem waitingRequestCompletesExactlyWhenPermitted : Obligations.WaitingRequestCompletesExactlyWhenPermitted := by
  intro s r rest hs hp permitted
  cases hd : decodeOpSelect r with
  | error e =>
    refine ⟨fun ⟨i, hi, _⟩ => ?_, fun _ => ⟨_, step_of_decode_error hp hd, nofun⟩⟩
    cases hd.symm.trans hi
  | ok i =>
    have hhost := isHost_of_decodeOpSelect hd
    have hstep : step s = exec i (s.withProgram rest) := stepRunsTheDecodedOperation s r rest i hp hd
    obtain ⟨hrefused, hnext⟩ := refusalsAreExactlyTheListed i (s.withProgram rest) fun hr => (hs.registers hr).lineCount
    have hpermitted : permitted ↔ refusalOf i (s.withProgram rest) = none := by
      simp [permitted, hd, refusalOf_eq_none_iff hhost]
    rw [hpermitted, hstep]
    refine ⟨fun hnone => ?_, fun hsome => ?_⟩
    · obtain ⟨t, ht⟩ := hnext hnone
      obtain ⟨-, hprogram, -⟩ := onlyTheNamedOperationsWriteARegister i _ t ht
      exact ⟨t, ht, phase_ready_of_exec_next hhost ht, hprogram⟩
    · obtain ⟨why, hwhy⟩ := Option.ne_none_iff_exists'.mp hsome
      exact ⟨why, hrefused why hwhy, fun m hm => refusalOf_ne_notModelled i _ m (hm ▸ hwhy)⟩

end Sys2Proof.Safety
end

section
/-! PROOFS. With nothing presented a step is idle (70_reset_and_hazards R130). -/

namespace Sys2Proof.Machine

theorem fetch_of_program_nil {s : State} (hp : s.program = []) : fetch s = .idle := by
  simp [fetch, hp]

/-- Settles O3: the fetch is idle. -/
theorem stepWaitsForTheHost : Obligations.StepWaitsForTheHost := by
  intro s hp
  rw [step, fetch_of_program_nil hp]

end Sys2Proof.Machine
end

section
/-! PROOFS. The two relations of traces (70_reset_and_hazards R131): merging and splitting of delays is equality of the
merged forms, and lengthening is the comparison of the merged forms event by event. -/

namespace Sys2Proof.Safety

open Sys2Proof.Machine

/-- A reading is the same of equivalent traces if one merge does not change it. -/
theorem TraceEquivalent.observed {α : Type} {f : List Event → α} {a b : List Event}
    (hf : ∀ before after d e, f (before ++ .delay d :: .delay e :: after) = f (before ++ .delay (d + e) :: after))
    (h : TraceEquivalent a b) : f a = f b := by
  induction h with
  | merge before after d e => exact hf before after d e
  | refl a => rfl
  | symm _ ih => exact ih.symm
  | trans _ _ ih₁ ih₂ => exact ih₁.trans ih₂

/-- Equivalent parts make equivalent traces, whatever stands around them. -/
theorem TraceEquivalent.between {a b : List Event} (h : TraceEquivalent a b) (front back : List Event) :
    TraceEquivalent (front ++ (a ++ back)) (front ++ (b ++ back)) := by
  induction h with
  | merge before after d e => simpa using TraceEquivalent.merge (front ++ before) (after ++ back) d e
  | refl a => exact .refl _
  | symm _ ih => exact ih.symm
  | trans _ _ ih₁ ih₂ => exact ih₁.trans ih₂

theorem TraceEquivalent.append_right {a b : List Event} (h : TraceEquivalent a b) (back : List Event) :
    TraceEquivalent (a ++ back) (b ++ back) := h.between [] back

theorem TraceEquivalent.cons {a b : List Event} (x : Event) (h : TraceEquivalent a b) :
    TraceEquivalent (x :: a) (x :: b) := by
  simpa using h.between [x] []

/-- The merged form is reached by merging. -/
theorem traceEquivalent_mergeDelays (a : List Event) : TraceEquivalent a (mergeDelays a) := by
  induction a with
  | nil => exact .refl _
  | cons x rest ih =>
    have hrest : TraceEquivalent (x :: rest) (x :: mergeDelays rest) := ih.cons x
    cases x with
    | busWrite address bytes => exact hrest
    | delay d =>
      rcases mergeDelays_delay_cases d rest with ⟨e, later, h, h'⟩ | ⟨-, h'⟩
      · rw [h']
        rw [h] at hrest
        exact hrest.trans (.merge [] later d e)
      · rwa [h']

theorem TraceEquivalent.mergeDelays_eq {a b : List Event} (h : TraceEquivalent a b) : mergeDelays a = mergeDelays b :=
  h.observed fun before after d e => by
    rw [← mergeDelays_append_right, mergeDelays_delay_delay, mergeDelays_append_right]

theorem traceEquivalent_iff {a b : List Event} : TraceEquivalent a b ↔ mergeDelays a = mergeDelays b := by
  refine ⟨TraceEquivalent.mergeDelays_eq, fun h => ?_⟩
  have hb := (traceEquivalent_mergeDelays b).symm
  rw [← h] at hb
  exact (traceEquivalent_mergeDelays a).trans hb

/-- Merging the two parts first changes nothing of the merged form. -/
theorem mergeDelays_append (a b : List Event) :
    mergeDelays (mergeDelays a ++ mergeDelays b) = mergeDelays (a ++ b) := by
  rw [mergeDelays_append_right]
  exact ((traceEquivalent_mergeDelays a).append_right b).mergeDelays_eq.symm

/-- The same bus write, or a delay and one no shorter. -/
inductive NoShorterEvent : Event → Event → Prop where
  | busWrite (address : BusAddress) (bytes : List Byte) :
      NoShorterEvent (.busWrite address bytes) (.busWrite address bytes)
  | delay {d e : Nat} : d ≤ e → NoShorterEvent (.delay d) (.delay e)

/-- Event by event no shorter: the relation `noShorter` decides. -/
abbrev NoShorter : List Event → List Event → Prop := List.Forall₂ NoShorterEvent

theorem NoShorterEvent.refl : ∀ x : Event, NoShorterEvent x x
  | .busWrite address bytes => .busWrite address bytes
  | .delay d => .delay (Nat.le_refl d)

theorem NoShorterEvent.trans {x y z : Event} (hxy : NoShorterEvent x y) (hyz : NoShorterEvent y z) :
    NoShorterEvent x z := by
  cases hxy with
  | busWrite address bytes => exact hyz
  | delay hde =>
    cases hyz with
    | delay hef => exact .delay (Nat.le_trans hde hef)

theorem noShorter_iff {a b : List Event} : noShorter a b = true ↔ NoShorter a b := by
  constructor
  · intro h
    induction a, b using noShorter.induct with
    | case1 => exact .nil
    | case2 a₁ b₁ rest₁ a₂ b₂ rest₂ ih =>
      simp only [noShorter, Bool.and_eq_true, beq_iff_eq] at h
      obtain ⟨⟨rfl, rfl⟩, hrest⟩ := h
      exact .cons (.busWrite ..) (ih hrest)
    | case3 d rest₁ e rest₂ ih =>
      simp only [noShorter, Bool.and_eq_true, decide_eq_true_eq] at h
      exact .cons (.delay h.1) (ih h.2)
    | case4 a b h₁ h₂ h₃ => simp [noShorter] at h
  · intro h
    induction h with
    | nil => rfl
    | cons hx _ ih => cases hx <;> simp_all [noShorter]

theorem NoShorter.refl (a : List Event) : NoShorter a a := List.forall₂_same.mpr fun x _ => NoShorterEvent.refl x

theorem NoShorter.trans {a b c : List Event} (hab : NoShorter a b) (hbc : NoShorter b c) : NoShorter a c := by
  induction hab generalizing c with
  | nil => exact hbc
  | cons hx _ ih =>
    cases hbc with
    | cons hy hrest => exact .cons (hx.trans hy) (ih hrest)

theorem NoShorter.append {a b c d : List Event} (hab : NoShorter a b) (hcd : NoShorter c d) :
    NoShorter (a ++ c) (b ++ d) := List.rel_append hab hcd

/-- Merging keeps the comparison: two runs of delays that compare event by event have sums that compare. -/
theorem NoShorter.mergeDelays {a b : List Event} (h : NoShorter a b) :
    NoShorter (mergeDelays a) (mergeDelays b) := by
  induction h with
  | nil => exact .nil
  | @cons _ _ rest₁ rest₂ hx _ ih =>
    cases hx with
    | busWrite address bytes => exact .cons (.busWrite ..) ih
    | delay hde =>
      simp only [Machine.mergeDelays]
      generalize Machine.mergeDelays rest₁ = merged₁, Machine.mergeDelays rest₂ = merged₂ at ih
      cases ih with
      | nil => exact .cons (.delay hde) .nil
      | cons hy hrest =>
        cases hy with
        | busWrite address bytes => exact .cons (.delay hde) (.cons (.busWrite ..) hrest)
        | delay hfg => exact .cons (.delay (Nat.add_le_add hde hfg)) hrest

theorem waitsAtLeast_iff {a b : List Event} :
    waitsAtLeast a b = true ↔ NoShorter (mergeDelays a) (mergeDelays b) := noShorter_iff

theorem NoShorter.waitsAtLeast {a b : List Event} (h : NoShorter a b) : waitsAtLeast a b = true :=
  waitsAtLeast_iff.mpr h.mergeDelays

theorem Lengthened.cons (x : Event) {a b : List Event} (h : Lengthened a b) : Lengthened (x :: a) (x :: b) := by
  induction h with
  | equivalent h => exact .equivalent (h.cons x)
  | longer before after d e hde => exact .longer (x :: before) after d e hde
  | trans _ _ ih₁ ih₂ => exact ih₁.trans ih₂

/-- What is no shorter event by event is reached by lengthening one delay after another. -/
theorem NoShorter.lengthened {a b : List Event} (h : NoShorter a b) : Lengthened a b := by
  induction h with
  | nil => exact .equivalent (.refl _)
  | cons hx _ ih =>
    cases hx with
    | busWrite address bytes => exact ih.cons _
    | delay hde => exact (ih.cons _).trans (.longer [] _ _ _ hde)

theorem Lengthened.noShorter_mergeDelays {a b : List Event} (h : Lengthened a b) :
    NoShorter (mergeDelays a) (mergeDelays b) := by
  induction h with
  | equivalent h => rw [h.mergeDelays_eq]; exact NoShorter.refl _
  | longer before after d e hde =>
    exact ((NoShorter.refl before).append (.cons (.delay hde) (NoShorter.refl after))).mergeDelays
  | trans _ _ ih₁ ih₂ => exact ih₁.trans ih₂

theorem lengthened_iff {a b : List Event} : Lengthened a b ↔ waitsAtLeast a b = true := by
  rw [waitsAtLeast_iff]
  refine ⟨Lengthened.noShorter_mergeDelays, fun h => ?_⟩
  exact (Lengthened.equivalent (traceEquivalent_mergeDelays a)).trans
    (h.lengthened.trans (.equivalent (traceEquivalent_mergeDelays b).symm))

/-- Settles O50: each relation is decided on the merged forms. -/
theorem traceRelationsAreMergingSplittingAndLengthening :
    Obligations.TraceRelationsAreMergingSplittingAndLengthening := fun _ _ => ⟨traceEquivalent_iff, lengthened_iff⟩

end Sys2Proof.Safety
end

section
/-! PROOFS. What an observer reads of two related traces (70_reset_and_hazards R131, R132). -/

namespace Sys2Proof.Safety

open Sys2Proof.Machine

/-- A reading of a trace that passes over delays. -/
def DelayBlind {α : Type} (f : List Event → α) : Prop :=
  ∀ before after d, f (before ++ .delay d :: after) = f (before ++ after)

theorem delayBlind_busBytes : DelayBlind busBytes := fun _ _ _ => by simp [busBytes]

theorem delayBlind_busWrites : DelayBlind busWrites := fun _ _ _ => by simp [busWrites]

theorem delayBlind_all_eventLegal : DelayBlind fun a => a.all eventLegal := fun _ _ _ => by simp [eventLegal]

section Observers

variable {a b : List Event}

/-- A reading does not shrink by lengthening if it does not by lengthening one delay, and one merge does not change
it. -/
theorem Lengthened.observed_le {α : Type} [Preorder α] {f : List Event → α}
    (hf : ∀ before after d e, f (before ++ .delay d :: .delay e :: after) = f (before ++ .delay (d + e) :: after))
    (hlong : ∀ before after d e, d ≤ e → f (before ++ .delay d :: after) ≤ f (before ++ .delay e :: after))
    (h : Lengthened a b) : f a ≤ f b := by
  induction h with
  | equivalent h => exact (h.observed hf).le
  | longer before after d e hde => exact hlong before after d e hde
  | trans _ _ ih₁ ih₂ => exact ih₁.trans ih₂

theorem Lengthened.observed_eq {α : Type} {f : List Event → α} (hf : DelayBlind f) (h : Lengthened a b) :
    f a = f b := by
  induction h with
  | equivalent h => exact h.observed fun before after d e => by rw [hf, hf, hf]
  | longer before after d e _ => rw [hf, hf]
  | trans _ _ ih₁ ih₂ => exact ih₁.trans ih₂

theorem minDuration_merge (before after : List Event) (d e : Nat) :
    minDuration (before ++ .delay d :: .delay e :: after) = minDuration (before ++ .delay (d + e) :: after) := by
  simp [minDuration, Nat.add_assoc]

theorem waitsOut_merge (c : Config) (owed : Nat) (x : Byte) (before after : List Event) (d e : Nat) :
    waitsOut c owed x (before ++ .delay d :: .delay e :: after) =
      waitsOut c owed x (before ++ .delay (d + e) :: after) := by
  induction before generalizing owed x with
  | nil => exact waitsOut_delay_delay c owed x d e after
  | cons y rest ih => cases y <;> simp [waitsOut, ih]

/-- What is owed less is waited out the sooner. -/
theorem waitsOut_of_le {c : Config} {owed less : Nat} (hle : less ≤ owed) {x : Byte} {a : List Event}
    (h : waitsOut c owed x a = true) : waitsOut c less x a = true := by
  induction a generalizing owed less with
  | nil =>
    simp only [waitsOut, decide_eq_true_eq] at h ⊢
    omega
  | cons y rest ih =>
    cases y with
    | delay d => exact ih (Nat.sub_le_sub_right hle d) h
    | busWrite address bytes =>
      simp only [waitsOut, Bool.and_eq_true, decide_eq_true_eq] at h ⊢
      exact ⟨by omega, h.2⟩

theorem waitsOut_longer {c : Config} {owed : Nat} {x : Byte} {before after : List Event} {d e : Nat} (hde : d ≤ e)
    (h : waitsOut c owed x (before ++ .delay d :: after) = true) :
    waitsOut c owed x (before ++ .delay e :: after) = true := by
  induction before generalizing owed x with
  | nil => exact waitsOut_of_le (Nat.sub_le_sub_left hde owed) h
  | cons y rest ih =>
    cases y with
    | delay f => exact ih h
    | busWrite address bytes =>
      obtain ⟨howed, hrest⟩ := Bool.and_eq_true_iff.mp h
      exact Bool.and_eq_true_iff.mpr ⟨howed, ih hrest⟩

theorem Lengthened.minDuration_le (h : Lengthened a b) : minDuration a ≤ minDuration b :=
  h.observed_le minDuration_merge fun _ _ _ _ hde => by simpa [minDuration] using hde

theorem Lengthened.waitsOut_le (h : Lengthened a b) (c : Config) (owed : Nat) (x : Byte) :
    waitsOut c owed x a ≤ waitsOut c owed x b :=
  h.observed_le (waitsOut_merge c owed x) fun _ _ _ _ hde => waitsOut_longer hde

/-- Behind an equivalent trace an instruction writes the same registers and appends the same events. -/
theorem TraceEquivalent.exec {i : Instr} {s t : State} (hab : TraceEquivalent s.trace b) (h : exec i s = .next t) :
    ∃ u : State, exec i { s with trace := b } = .next u ∧ { u with trace := t.trace } = t ∧
      TraceEquivalent t.trace u.trace := by
  obtain ⟨htrace, hlatch⟩ := traceOnlyGrows i s t h
  refine ⟨_, blockNeverReadsItsOutput i s t b s.xlatch h, ?_, ?_⟩
  · rw [← hlatch]
  · rw [htrace]
    exact hab.append_right _

end Observers

/-- Settles O51: no observer sees a merge, and the block reads no trace (O45). -/
theorem equivalentTracesAreReadAlike : Obligations.EquivalentTracesAreReadAlike := by
  intro a b hab
  have hlong : Lengthened a b := .equivalent hab
  have hbytes := hlong.observed_eq delayBlind_busBytes
  exact ⟨hbytes, congrArg latched hbytes, hlong.observed_eq delayBlind_busWrites, hab.observed minDuration_merge,
    hlong.observed_eq delayBlind_all_eventLegal, fun c owed x => hab.observed (waitsOut_merge c owed x),
    fun i s t htrace h => TraceEquivalent.exec (htrace ▸ hab) h⟩

/-- Settles O52: lengthening is `waitsAtLeast` (`lengthened_iff`), no observer reads less of a longer delay, and the
merged forms of two concatenations compare part by part. -/
theorem longerDelaysBreakNoRequirement : Obligations.LongerDelaysBreakNoRequirement := by
  intro required actual h
  have hlong : Lengthened required actual := lengthened_iff.mpr h
  have hbytes := hlong.observed_eq delayBlind_busBytes
  refine ⟨hbytes.symm, congrArg latched hbytes.symm, (hlong.observed_eq delayBlind_busWrites).symm,
    (hlong.observed_eq delayBlind_all_eventLegal).symm, hlong.minDuration_le, hlong.waitsOut_le,
    fun further hfurther => lengthened_iff.mp (hlong.trans (lengthened_iff.mpr hfurther)),
    fun next nextActual hnext => ?_⟩
  rw [waitsAtLeast_iff] at h hnext ⊢
  rw [← mergeDelays_append required, ← mergeDelays_append actual]
  exact (h.append hnext).mergeDelays

end Sys2Proof.Safety
end

section
/-! PROOFS. Every bus write of a host operation is waited out (70_reset_and_hazards R132, R133 H-c). -/

namespace Sys2Proof.Safety

open Sys2Proof.Machine

/-- Behind events that are waited out, the rest is read with nothing owed and their last byte on the lines. -/
theorem waitsOut_append {c : Config} {owed : Nat} {x : Byte} {a : List Event} (ha : waitsOut c owed x a = true)
    (b : List Event) : waitsOut c owed x (a ++ b) = waitsOut c 0 ((busBytes a).getLastD x) b := by
  induction a generalizing owed x with
  | nil =>
    cases of_decide_eq_true ha
    rfl
  | cons y rest ih =>
    cases y with
    | delay d => exact ih ha
    | busWrite address bytes =>
      obtain ⟨howed, hrest⟩ := Bool.and_eq_true_iff.mp ha
      rw [List.cons_append, waitsOut, howed, Bool.true_and, ih hrest, busBytes, getLastD_append]

/-- Begun with a byte on the lines and nothing owed, some events are waited out and leave the enable bit low. -/
def SettledFrom (c : Config) (x : Byte) (events : List Event) : Prop :=
  waitsOut c 0 x events = true ∧ ((busBytes events).getLastD x).getLsbD 2 = false

/-- So begun with the enable bit low. -/
def Settled (c : Config) (events : List Event) : Prop := ∀ x : Byte, x.getLsbD 2 = false → SettledFrom c x events

section Events

variable {c : Config}

theorem SettledFrom.append {x : Byte} {a b : List Event} (ha : SettledFrom c x a) (hb : Settled c b) :
    SettledFrom c x (a ++ b) := by
  obtain ⟨hwait, hlow⟩ := ha
  obtain ⟨hwait', hlow'⟩ := hb _ hlow
  exact ⟨by rw [waitsOut_append hwait, hwait'], by rwa [busBytes_append, getLastD_append]⟩

theorem Settled.append {a b : List Event} (ha : Settled c a) (hb : Settled c b) : Settled c (a ++ b) :=
  fun x hx => (ha x hx).append hb

theorem settled_nil : Settled c [] := fun _ hx => ⟨rfl, hx⟩

theorem settled_delay (ns : Nat) : Settled c [.delay ns] := fun _ hx =>
  ⟨by simp [waitsOut], hx⟩

theorem settled_delays (waits : List Nat) : Settled c (waits.map .delay) := by
  induction waits with
  | nil => exact settled_nil
  | cons ns rest ih => exact (settled_delay ns).append ih

/-- A nibble transfer waits `T_XW` after each of its writes, `T_EN_HIGH` besides after the rise of the enable bit and
`T_EN_LOW` besides after its fall, if its byte has the enable bit clear of itself (40_transport R74). -/
theorem settled_nibbleTransfer (on : Bool) {nb : Byte} (hnb : nb.getLsbD 2 = false) :
    Settled c (nibbleTransfer c on nb) := by
  intro x hx
  have hbefore : (nb ||| lamp on).getLsbD 2 = false := by rw [BitVec.getLsbD_or, hnb]; cases on <;> rfl
  have hrise : (nb ||| 0x04#8 ||| lamp on).getLsbD 2 = true := by simp
  have hfall : (nb &&& 0xFB#8 ||| lamp on).getLsbD 2 = false := by cases on <;> simp [lamp]
  refine ⟨?_, hfall⟩
  simp only [nibbleTransfer, waitsOut, List.getLastD_cons, List.getLastD_nil, waitAfter, hx, hbefore, hrise, hfall]
  simp [tXw]

theorem settled_writeNibbleEvents (on : Bool) {nb : Byte} (hnb : nb.getLsbD 2 = false) :
    Settled c (writeNibbleEvents c on nb) :=
  writeNibbleEvents_eq c on nb ▸ settled_nibbleTransfer on hnb

theorem settled_sendByteEvents (on : Bool) (v : Byte) (isData : Bool) : Settled c (sendByteEvents c on v isData) := by
  refine (settled_writeNibbleEvents on ?_).append (settled_writeNibbleEvents on ?_) <;>
    cases isData <;> simp [highNibbleByte, lowNibbleByte, registerSelect, xbData, xbRs]

theorem settled_transmit (on : Bool) (sent : List (Bool × Byte)) : Settled c (transmit c on sent) := by
  induction sent with
  | nil => exact settled_nil
  | cons p rest ih => exact (settled_sendByteEvents on p.2 p.1).append ih

/-- The expander reset waits out a fall of the enable bit too, if its settle covers `T_EN_LOW` (41_configure_init R81). -/
theorem settledFrom_expanderReset (on : Bool) {x : Byte} (hx : x.getLsbD 2 = false ∨ c.tEnLow ≤ tResetSettle) :
    SettledFrom c x ([.delay tPowerUp] ++ (expanderWriteEvents on 0x00#8 ++ [.delay tResetSettle])) := by
  have hlow : (0x00#8 ||| backlightBit on).getLsbD 2 = false := by cases on <;> rfl
  refine ⟨?_, hlow⟩
  have howed : waitAfter c x (0x00#8 ||| backlightBit on) - tXw - tResetSettle = 0 := by
    rw [waitAfter, hlow]
    rcases hx with hx | hx
    · rw [hx]
      simp
    · cases x.getLsbD 2 <;> simp [hx]
  simpa [expanderWriteEvents, waitsOut, -BitVec.zero_or] using howed

theorem settled_handshakeCommandEvents (on : Bool) (fs : Byte) : Settled c (handshakeCommandEvents c on fs) :=
  have hsend v : Settled c (sendByteEvents c on v false) := settled_sendByteEvents on v false
  (hsend _).append ((hsend _).append (((hsend _).append (settled_delay _)).append ((hsend _).append
    ((hsend _).append (settled_delay _)))))

theorem settledFrom_handshakeOf (on : Bool) (fs : Byte) {x : Byte}
    (hx : x.getLsbD 2 = false ∨ c.tEnLow ≤ tResetSettle) : SettledFrom c x (handshakeOf c on fs) := by
  have h8 : Settled c (writeNibbleEvents c on initNibble8BitByte) := settled_writeNibbleEvents on rfl
  rw [handshakeOf_eq_append]
  exact (((((settledFrom_expanderReset on hx).append (h8.append (settled_delay _))).append
    (h8.append (settled_delay _))).append (h8.append (settled_delay _))).append
    (settled_writeNibbleEvents on rfl)).append (settled_handshakeCommandEvents on fs)

end Events

/-- Settles O53: `CONFIGURE` adds the handshake, which begins with the expander reset, and every other host operation
whole bytes and waits. -/
theorem hostOperationsWaitOutEveryBusWrite : Obligations.HostOperationsWaitOutEveryBusWrite := by
  intro i s t before hi h hbefore
  cases hconf : isConfigure i with
  | true =>
    cases i with
    | configure columns lines fontVariant =>
      obtain ⟨-, -, rfl⟩ := execConfigure_next h
      rw [initHandshake_eq, added_eq_of_trace rfl]
      exact (settledFrom_handshakeOf _ _ (hbefore.imp_right And.right)).1
    | _ => cases hconf
  | false =>
    obtain ⟨sent, waits, hadded, -⟩ := added_eq_transmit hi hconf h
    have hlow : before.getLsbD 2 = false := hbefore.resolve_right fun hc => by simp [hconf] at hc
    rw [hadded]
    exact (((settled_transmit _ sent).append (settled_delays waits)) before hlow).1

end Sys2Proof.Safety
end

section
/-! PROOFS. Longer enable holds (70_reset_and_hazards R131): beside a state whose holds are longer and whose trace waits
no less, an instruction answers another such state. -/

namespace Sys2Proof.Safety

open Sys2Proof.Machine

/-- The second state is the first with holds no smaller, and a trace that is no shorter event by event. -/
inductive HeldLonger (s : State) : State → Prop where
  | intro {high low : Nat} {tr : List Event} :
      s.config.tEnHigh ≤ high → s.config.tEnLow ≤ low → NoShorter s.trace tr →
      HeldLonger s { s with config := withHolds s.config high low, trace := tr }

/-- The same refusal, or next states of which the second is held longer. -/
inductive AnswersLonger : Result → Result → Prop where
  | next {s u : State} : HeldLonger s u → AnswersLonger (.next s) (.next u)
  | refused (why : Refusal) : AnswersLonger (.refused why) (.refused why)

/-- The expander holds the same byte after longer delays (10_state R26). -/
theorem NoShorter.lastBusByte_eq {a b : List Event} (h : NoShorter a b) (x : Byte) :
    lastBusByte x b = lastBusByte x a := by
  induction h generalizing x with
  | nil => rfl
  | cons hy _ ih => cases hy <;> exact ih _

section Transport

variable {c : Config} {high low : Nat} (hhigh : c.tEnHigh ≤ high) (hlow : c.tEnLow ≤ low)

include hhigh hlow

/-- A nibble transfer has its two holds among its delays (40_transport R74). -/
theorem noShorter_writeNibbleEvents (on : Bool) (nb : Byte) :
    NoShorter (writeNibbleEvents c on nb) (writeNibbleEvents (withHolds c high low) on nb) :=
  ((NoShorter.refl _).append (.cons (.delay hhigh) .nil)).append (.refl _) |>.append (.cons (.delay hlow) .nil)

theorem noShorter_sendByteEvents (on : Bool) (v : Byte) (isData : Bool) :
    NoShorter (sendByteEvents c on v isData) (sendByteEvents (withHolds c high low) on v isData) :=
  (noShorter_writeNibbleEvents hhigh hlow on _).append (noShorter_writeNibbleEvents hhigh hlow on _)

theorem noShorter_handshakeOf (on : Bool) (fs : Byte) :
    NoShorter (handshakeOf c on fs) (handshakeOf (withHolds c high low) on fs) := by
  have hnibble nb := noShorter_writeNibbleEvents hhigh hlow on nb
  have hsend v := noShorter_sendByteEvents hhigh hlow on v false
  have hrefl := NoShorter.refl
  exact (hrefl _).append (hrefl _) |>.append ((hnibble _).append (hrefl _)) |>.append ((hnibble _).append (hrefl _))
    |>.append ((hnibble _).append (hrefl _)) |>.append (hnibble _) |>.append (hsend _) |>.append (hsend _)
    |>.append ((hsend _).append (hrefl _)) |>.append (hsend _) |>.append ((hsend _).append (hrefl _))

end Transport

section Rules

variable {s u : State}

theorem HeldLonger.emit (h : HeldLonger s u) {es es' : List Event} (hes : NoShorter es es') :
    HeldLonger (s.emit es) (u.emit es') := by
  obtain ⟨hhigh, hlow, htr⟩ := h
  have hemit : HeldLonger (s.emit es) _ := .intro hhigh hlow (htr.append hes)
  rwa [State.emit_xlatch, ← hes.lastBusByte_eq] at hemit

theorem HeldLonger.sendByte (h : HeldLonger s u) (v : Byte) (isData : Bool) :
    HeldLonger (s.sendByte v isData) (u.sendByte v isData) := by
  refine h.emit ?_
  obtain ⟨hhigh, hlow, -⟩ := h
  exact noShorter_sendByteEvents hhigh hlow ..

theorem HeldLonger.writeNibble (h : HeldLonger s u) (nb : Byte) : HeldLonger (s.writeNibble nb) (u.writeNibble nb) := by
  refine h.emit ?_
  obtain ⟨hhigh, hlow, -⟩ := h
  exact noShorter_writeNibbleEvents hhigh hlow ..

theorem HeldLonger.writeExpander (h : HeldLonger s u) (b : Byte) :
    HeldLonger (s.writeExpander b) (u.writeExpander b) := by
  refine h.emit ?_
  obtain ⟨-, -, -⟩ := h
  exact .refl _

theorem HeldLonger.wait (h : HeldLonger s u) (ns : Nat) : HeldLonger (s.wait ns) (u.wait ns) := h.emit (.refl _)

theorem HeldLonger.writeAll (h : HeldLonger s u) (bytes : List Byte) :
    HeldLonger (s.writeAll bytes) (u.writeAll bytes) := by
  induction bytes generalizing s u with
  | nil => exact h
  | cons v rest ih => exact ih (h.sendByte v true)

theorem HeldLonger.updateControl (h : HeldLonger s u) (v : Byte) :
    HeldLonger (s.updateControl v) (u.updateControl v) := by
  obtain ⟨hhigh, hlow, htr⟩ := h
  have hwrite : HeldLonger (s.withControlFlags v) _ := .intro hhigh hlow htr
  exact hwrite.sendByte ..

theorem HeldLonger.updateMode (h : HeldLonger s u) (v : Byte) :
    HeldLonger (s.updateMode v) (u.updateMode v) := by
  obtain ⟨hhigh, hlow, htr⟩ := h
  have hwrite : HeldLonger (s.withModeFlags v) _ := .intro hhigh hlow htr
  exact hwrite.sendByte ..

theorem HeldLonger.withBacklight (h : HeldLonger s u) (on : Bool) :
    HeldLonger (s.withBacklight on) (u.withBacklight on) := by
  obtain ⟨hhigh, hlow, htr⟩ := h
  exact .intro hhigh hlow htr

theorem HeldLonger.withGeometry (h : HeldLonger s u) (columns lines font : Byte) :
    HeldLonger (s.withGeometry columns lines font) (u.withGeometry columns lines font) := by
  obtain ⟨hhigh, hlow, htr⟩ := h
  exact .intro hhigh hlow htr

theorem HeldLonger.initHandshake (h : HeldLonger s u) : HeldLonger (initHandshake s) (initHandshake u) := by
  obtain ⟨hhigh, hlow, htr⟩ := h
  have hwrite : HeldLonger
      (((s.withControlFlags s.config.flagDisplayOn).withModeFlags s.config.flagEntryLeft).withPhase .ready) _ :=
    .intro hhigh hlow htr
  rw [initHandshake_eq, initHandshake_eq]
  exact hwrite.emit (noShorter_handshakeOf hhigh hlow ..)

theorem HeldLonger.phase_eq (h : HeldLonger s u) : u.phase = s.phase := by
  obtain ⟨-, -, -⟩ := h
  rfl

theorem HeldLonger.ddramCommand_eq (h : HeldLonger s u) (col row : Byte) :
    ddramCommand u.config u.lineCount col row = ddramCommand s.config s.lineCount col row := by
  obtain ⟨-, -, -⟩ := h
  rfl

theorem AnswersLonger.exists_next {t : State} {k : Result} (hk : AnswersLonger (.next t) k) :
    ∃ v, k = .next v ∧ HeldLonger t v := by
  cases hk with
  | next h => exact ⟨_, rfl, h⟩

theorem AnswersLonger.whenReady (h : HeldLonger s u) {k k' : Result} (hk : AnswersLonger k k') :
    AnswersLonger (whenReady s k) (whenReady u k') := by
  cases hp : s.phase with
  | ready => rwa [whenReady_ready hp, whenReady_ready (h.phase_eq.trans hp)]
  | unconfigured =>
    rw [whenReady_unconfigured hp, whenReady_unconfigured (h.phase_eq.trans hp)]
    exact .refused _

theorem AnswersLonger.ite {k₁ k₁' k₂ k₂' : Result} (p : Prop) [Decidable p] (h₁ : AnswersLonger k₁ k₁')
    (h₂ : AnswersLonger k₂ k₂') : AnswersLonger (if p then k₁ else k₂) (if p then k₁' else k₂') := by
  split
  · exact h₁
  · exact h₂

theorem execConfigure_answersLonger (h : HeldLonger s u) (columns lines font : Byte) :
    AnswersLonger (execConfigure columns lines font s) (execConfigure columns lines font u) := by
  cases hp : s.phase with
  | ready =>
    rw [execConfigure_ready hp, execConfigure_ready (h.phase_eq.trans hp)]
    exact .refused _
  | unconfigured =>
    rw [execConfigure_unconfigured hp, execConfigure_unconfigured (h.phase_eq.trans hp)]
    exact .ite _ (.next (h.withGeometry columns lines font).initHandshake) (.refused _)

theorem execSetCursor_answersLonger (h : HeldLonger s u) (col row : Byte) :
    AnswersLonger (execSetCursor col row s) (execSetCursor col row u) := by
  refine .whenReady h ?_
  rw [h.ddramCommand_eq]
  cases ddramCommand s.config s.lineCount col row with
  | some v => exact .next (h.sendByte v false)
  | none => exact .refused _

/-- No instruction looks at the holds or the trace. -/
theorem exec_answersLonger (i : Instr) (h : HeldLonger s u) : AnswersLonger (exec i s) (exec i u) := by
  have hcases := h
  obtain ⟨-, -, -⟩ := hcases
  cases i with
  | configure columns lines font => exact execConfigure_answersLonger h columns lines font
  | setCursor col row => exact execSetCursor_answersLonger h col row
  | clear | home => exact .whenReady h (.next ((h.sendByte _ false).wait _))
  | scrollLeft | scrollRight => exact .whenReady h (.next (h.sendByte _ false))
  | displayOn | displayOff | cursorOn | cursorOff | blinkOn | blinkOff => exact .whenReady h (.next (h.updateControl _))
  | leftToRight | rightToLeft | autoscrollOn | autoscrollOff => exact .whenReady h (.next (h.updateMode _))
  | createChar slot rows =>
    exact .whenReady h (.ite _ (.next ((h.sendByte (cgramCommand slot) false).writeAll _)) (.refused _))
  | backlightOn | backlightOff => exact .whenReady h (.next (h.withBacklight _))
  | print buffer size => exact .whenReady h (.ite _ (.refused _) (.ite _ (.refused _) (.next (h.writeAll _))))
  | writeNibble | initNibble8Bit | initNibble4Bit | nibbleByte => exact .next (h.writeNibble _)
  | expanderWrite | expanderByte => exact .next (h.writeExpander _)
  | sendByte | dataByte | clearDisplay | returnHome | entryModeSet | displayControl | cursorShift | functionSet
  | setCgramAddr | setDdramAddr => exact .next (h.sendByte _ _)

end Rules

/-- Settles O54: the two answers are next states of which the second is held longer, and both traces began alike. -/
theorem longerHoldsOnlyLengthenDelays : Obligations.LongerHoldsOnlyLengthenDelays := by
  intro i s t high low hhigh hlow h
  have hlonger := exec_answersLonger i (HeldLonger.intro hhigh hlow (.refl s.trace))
  rw [h] at hlonger
  obtain ⟨u, hu, hheld⟩ := hlonger.exists_next
  refine ⟨u, hu, ?_⟩
  obtain ⟨-, -, htrace⟩ := hheld
  exact ⟨rfl, NoShorter.waitsAtLeast (List.forall₂_drop s.trace.length htrace)⟩

end Sys2Proof.Safety
end

section
/-! PROOFS. Bus writes and minimum durations (70_reset_and_hazards R135): those of the transport's event lists, added up
for each operation. -/

namespace Sys2Proof.Safety

open Sys2Proof.Machine

/-- The bus writes and the minimum duration of some events. -/
def Costs (events : List Event) (writes ns : Nat) : Prop := busWrites events = writes ∧ minDuration events = ns

theorem Costs.append {a b : List Event} {writes writes' ns ns' : Nat} (ha : Costs a writes ns)
    (hb : Costs b writes' ns') : Costs (a ++ b) (writes + writes') (ns + ns') :=
  ⟨by rw [busWrites_append, ha.1, hb.1], by rw [minDuration_append, ha.2, hb.2]⟩

theorem Costs.added {s t : State} {events : List Event} {writes ns : Nat} (h : Costs events writes ns)
    (htrace : t.trace = s.trace ++ events) : Costs (added s t) writes ns := by
  rwa [added_eq_of_trace htrace]

theorem costs_nil : Costs [] 0 0 := ⟨rfl, rfl⟩

theorem costs_delay (ns : Nat) : Costs [.delay ns] 0 ns := ⟨rfl, rfl⟩

theorem costs_expanderWriteEvents (on : Bool) (b : Byte) : Costs (expanderWriteEvents on b) 1 settleNs := ⟨rfl, rfl⟩

theorem command_writeAll_eq_transmit (s : State) (v : Byte) (bytes : List Byte) :
    (s.command v).writeAll bytes =
      s.emit (transmit s.config s.backlightState ((false, v) :: bytes.map (true, ·))) := by
  rw [State.command, State.sendByte_eq_transmit, State.writeAll_eq_transmit, State.emit_emit]
  simp [transmit]

section DefaultHolds

variable {c : Config} (hhigh : c.tEnHigh = 1000) (hlow : c.tEnLow = 37000)

include hhigh hlow

theorem costs_writeNibbleEvents (on : Bool) (nb : Byte) : Costs (writeNibbleEvents c on nb) 3 nibbleNs := by
  rw [writeNibbleEvents_eq]
  exact ⟨rfl, by simp [nibbleTransfer, minDuration, nibbleNs, hhigh, hlow]⟩

theorem costs_sendByteEvents (on : Bool) (v : Byte) (isData : Bool) :
    Costs (sendByteEvents c on v isData) 6 byteNs :=
  (costs_writeNibbleEvents hhigh hlow on _).append (costs_writeNibbleEvents hhigh hlow on _)

theorem costs_transmit (on : Bool) (sent : List (Bool × Byte)) :
    Costs (transmit c on sent) (6 * sent.length) (byteNs * sent.length) := by
  induction sent with
  | nil => exact ⟨rfl, rfl⟩
  | cons p rest ih =>
    have hsum := (costs_sendByteEvents hhigh hlow on p.2 p.1).append ih
    rwa [Nat.add_comm 6, Nat.add_comm byteNs] at hsum

/-- The nine steps of 41_configure_init R90, added up. -/
theorem costs_handshakeOf (on : Bool) (fs : Byte) : Costs (handshakeOf c on fs) 43 configureNs := by
  have hnibble nb := costs_writeNibbleEvents hhigh hlow on nb
  have hsend v := costs_sendByteEvents hhigh hlow on v false
  exact (costs_delay _).append ((costs_expanderWriteEvents on _).append (costs_delay _))
    |>.append ((hnibble _).append (costs_delay _)) |>.append ((hnibble _).append (costs_delay _))
    |>.append ((hnibble _).append (costs_delay _)) |>.append (hnibble _) |>.append (hsend _) |>.append (hsend _)
    |>.append ((hsend _).append (costs_delay _)) |>.append (hsend _) |>.append ((hsend _).append (costs_delay _))

end DefaultHolds

/-- A `CREATE_CHAR` that runs has eight rows (60_exceptions R116 (6)). -/
theorem length_rows_of_createChar_next {slot : Byte} {rows : List Byte} {s t : State}
    (h : execCreateChar slot rows s = .next t) : rows.length = 8 := by
  by_contra hrows
  cases h.symm.trans ((createCharSendsAddressAndRows slot rows s (execCreateChar_next h).1).2 hrows)

/-- A `PRINT` that runs has the bytes it counts (60_exceptions R116 (5)). -/
theorem length_take_of_print_next {buffer : List Byte} {size : Nat} {s t : State}
    (h : execPrint buffer size s = .next t) : (buffer.take (size - 1)).length = size - 1 := by
  refine List.length_take_of_le (Nat.le_of_not_lt fun hshort => ?_)
  cases h.symm.trans (execPrint_short (execPrint_next h).1 (by omega) hshort)

section Operations

variable {s t : State} (hhigh : s.config.tEnHigh = 1000) (hlow : s.config.tEnLow = 37000)

include hhigh hlow

theorem costs_added_command (v : Byte) : Costs (added s (s.command v)) 6 byteNs :=
  (costs_sendByteEvents hhigh hlow s.backlightState v false).added rfl

theorem costs_added_command_wait (v : Byte) (ns : Nat) :
    Costs (added s ((s.command v).wait ns)) 6 (byteNs + ns) :=
  ((costs_sendByteEvents hhigh hlow s.backlightState v false).append (costs_delay ns)).added
    (List.append_assoc ..)

/-- `CREATE_CHAR`: its command, and the eight rows where the parameter asks for them. -/
theorem costs_added_createChar {slot : Byte} {rows : List Byte} (h : execCreateChar slot rows s = .next t) :
    Costs (added s t) (6 * (if s.config.cgramWriteRows then 9 else 1))
      (byteNs * (if s.config.cgramWriteRows then 9 else 1)) := by
  have hrows := length_rows_of_createChar_next h
  obtain ⟨-, rfl⟩ := execCreateChar_next h
  rw [command_writeAll_eq_transmit, added_emit]
  have hcosts := costs_transmit hhigh hlow s.backlightState
    ((false, cgramCommand slot) :: (if s.config.cgramWriteRows then rows else []).map (true, ·))
  cases hwrite : s.config.cgramWriteRows <;> simpa [hwrite, hrows] using hcosts

theorem costs_added_print {buffer : List Byte} {size : Nat} (h : execPrint buffer size s = .next t) :
    Costs (added s t) (6 * (size - 1)) (byteNs * (size - 1)) := by
  have hlength := length_take_of_print_next h
  obtain ⟨-, rfl⟩ := execPrint_next h
  rw [State.writeAll_eq_transmit, added_emit]
  have hcosts := costs_transmit hhigh hlow s.backlightState ((buffer.take (size - 1)).map (true, ·))
  rwa [List.length_map, hlength] at hcosts

end Operations

/-- Every operation of the table of 70 R135 costs what the table says. -/
theorem costs_added {i : Instr} {s t : State} (hc : s.config = standardConfig)
    (hi : i.isHost = true ∨ i.format = .sendByte ∨ i.format = .writeNibble ∨ i.format = .expanderWrite)
    (h : exec i s = .next t) : Costs (added s t) (busWritesOf i) (durationOf i) := by
  have hhigh : s.config.tEnHigh = 1000 := by rw [hc]; rfl
  have hlow : s.config.tEnLow = 37000 := by rw [hc]; rfl
  have hsend v isData := costs_sendByteEvents hhigh hlow s.backlightState v isData
  cases i with
  | configure columns lines font =>
    obtain ⟨-, -, rfl⟩ := execConfigure_next h
    rw [initHandshake_eq]
    exact (costs_handshakeOf hhigh hlow true (functionFlagsOf s.config lines font)).added rfl
  | clear | home =>
    obtain ⟨-, h⟩ := whenReady_next_iff.mp h
    cases h
    exact costs_added_command_wait hhigh hlow _ _
  | setCursor col row =>
    obtain ⟨-, v, -, rfl⟩ := execSetCursor_next h
    exact costs_added_command hhigh hlow v
  | displayOn | displayOff | cursorOn | cursorOff | blinkOn | blinkOff =>
    obtain ⟨-, mask, on, -, rfl⟩ := exec_controlOp_next rfl h
    exact (hsend _ _).added rfl
  | leftToRight | rightToLeft | autoscrollOn | autoscrollOff =>
    obtain ⟨-, mask, on, -, rfl⟩ := exec_modeOp_next rfl h
    exact (hsend _ _).added rfl
  | scrollLeft | scrollRight =>
    obtain ⟨-, h⟩ := whenReady_next_iff.mp h
    cases h
    exact costs_added_command hhigh hlow _
  | createChar slot rows =>
    have hcosts := costs_added_createChar hhigh hlow h
    rwa [hc] at hcosts
  | backlightOn | backlightOff =>
    obtain ⟨-, h⟩ := whenReady_next_iff.mp h
    cases h
    exact costs_nil.added (List.append_nil _).symm
  | print buffer size => exact costs_added_print hhigh hlow h
  | sendByte v isData =>
    cases h
    exact (hsend v isData).added rfl
  | writeNibble nb =>
    cases h
    exact (costs_writeNibbleEvents hhigh hlow s.backlightState nb).added rfl
  | expanderWrite b =>
    cases h
    exact (costs_expanderWriteEvents s.backlightState b).added rfl
  | _ => simp [Instr.isHost, Instr.format] at hi

/-- Settles O44: the table is `costs_added`, and without the rows `CREATE_CHAR` is one byte. -/
theorem operationCosts : Obligations.OperationCosts := by
  intro i s t h
  refine ⟨fun hc hi => costs_added hc hi h, fun hc slot rows hi => ?_⟩
  subst hi
  have hcosts := costs_added_createChar (by rw [hc]; rfl) (by rw [hc]; rfl) h
  rwa [hc] at hcosts

end Sys2Proof.Safety
end
